-- ==== Sys2Proof/Word.lean ====
section
/-! DEFINITION. The words of the part: the characters (bytes) of its two links and the 16-bit values it sends as two of
them. Everything else of the part is a count, a name or a set, and has a type of its own (Machine/State.lean). -/

namespace Sys2Proof

/-- One character of a link, or one byte of a payload or of the store image (R128, R179). -/
abbrev Byte := BitVec 8

/-- A value sent as two characters, high byte first (R179); also a CRC (R128). -/
abbrev Half := BitVec 16

end Sys2Proof
end

