-- ==== Sys2Proof/Syntax.lean ====
section
/-! DEFINITION. The commands of the part: one constructor for each row of spec/opcode_table.json, in the table's order.
A trunk request carries the characters the port receives of its frame (R168, R181). -/

namespace Sys2Proof

/-- A step of the part (spec/opcode_table.json). -/
inductive Instr where
  /-- RESET_ASSERTED (R188): power-up, or RESETN held low. -/
  | resetAsserted
  /-- DEVICE_RESET (R188): the reset ends; the levels of the address straps and of the rate strap read then (R168). -/
  | deviceReset (straps : BitVec 7) (rate : Bool)
  /-- CYCLE_TICK (R140, R141, R144, R145, R147). -/
  | cycleTick
  /-- DEFERRED_TICK (R144): the held tick, when the transit transaction it waited for has ended. -/
  | deferredTick
  /-- FRAME_TRANSMITTED (R135, R138). -/
  | frameTransmitted
  /-- CONTENTION_MISMATCH (R138, R139). -/
  | contentionMismatch
  /-- FIELD_RECEPTION_END (R129): the characters taken after the opening mark: destination, source, kind, length and,
  unless the length is above 60, the payload and the two CRC bytes. -/
  | fieldReceptionEnd (chars : List Byte)
  /-- FRAMING_ERROR (R129). -/
  | framingError
  /-- REPLY_TIMEOUT (R135). -/
  | replyTimeout
  /-- NEXT_ATTEMPT (R135): the line has been idle for 3 character times after a failed attempt. -/
  | nextAttempt
  /-- OVERRIDE_EXPIRED (R92). -/
  | overrideExpired
  /-- PROOF_TIMEOUT (R110). -/
  | proofTimeout
  /-- HOLD_EXPIRED (R158). -/
  | holdExpired
  /-- WARMUP_COUNT_END (R186). -/
  | warmupCountEnd
  /-- FAULTED_COUNTDOWN_END (R145). -/
  | faultedCountdownEnd
  /-- SERVICE_RELEASE_ASSERTED (R146, R147). -/
  | serviceReleaseAsserted
  /-- SERVICE_RELEASE_DEASSERTED (R147). -/
  | serviceReleaseDeasserted
  /-- SAVE_COMPLETION (R191): the cells of the store that the read-back finds at another value than was written: the byte
  number (the image, then the check value, high byte first) and the value found. -/
  | saveCompletion (cells : List (Nat × Byte))
  /-- TRUNK_FRAME_DROPPED (R168, R169). -/
  | trunkFrameDropped
  /-- UNKNOWN_REQUEST (R170): a request frame whose code is in no row of the catalog (R181). As in every request below the
  operands are the characters taken after the opening mark (R128, R168): the destination, the source, and the others: the
  code, the length, the payload and the two CRC bytes. -/
  | unknownRequest (dst src : Byte) (chars : List Byte)
  /-- REPLY_SENT (R169): the strap levels then, read after the reply to a RESTART (R189). -/
  | replySent (straps : BitVec 7) (rate : Bool)
  /-- STATUS (R172), code 0x40. The destination, and the other characters from the source on. -/
  | status (dst : Byte) (chars : List Byte)
  /-- READ_CHANNEL (R38), code 0x41. -/
  | readChannel (dst : Byte) (chars : List Byte)
  /-- READ_ZONE (R67), code 0x42. -/
  | readZone (dst : Byte) (chars : List Byte)
  /-- READ_GROUP (R102), code 0x43. -/
  | readGroup (dst : Byte) (chars : List Byte)
  /-- READ_FAN (R118), code 0x44. -/
  | readFan (dst : Byte) (chars : List Byte)
  /-- READ_NODE (R151), code 0x45. -/
  | readNode (dst : Byte) (chars : List Byte)
  /-- READ_TABLE (R5, R173), code 0x46. -/
  | readTable (dst : Byte) (chars : List Byte)
  /-- WRITE_TABLE (R156), code 0x50. -/
  | writeTable (dst : Byte) (chars : List Byte)
  /-- HOLD (R158), code 0x51. -/
  | hold (dst : Byte) (chars : List Byte)
  /-- DISCARD (R157), code 0x52. -/
  | discard (dst : Byte) (chars : List Byte)
  /-- SAVE (R191), code 0x53. -/
  | save (dst : Byte) (chars : List Byte)
  /-- RUN (R185), code 0x58. -/
  | run (dst : Byte) (chars : List Byte)
  /-- STANDBY (R187), code 0x59. -/
  | standby (dst : Byte) (chars : List Byte)
  /-- RESTART (R189), code 0x5A. -/
  | restart (dst : Byte) (chars : List Byte)
  /-- ACKNOWLEDGE (R53, R73), code 0x60. -/
  | acknowledge (dst : Byte) (chars : List Byte)
  /-- PUSH_OVERRIDE (R90), code 0x61. -/
  | pushOverride (dst : Byte) (chars : List Byte)
  /-- POP_OVERRIDE (R91), code 0x62. -/
  | popOverride (dst : Byte) (chars : List Byte)
  /-- FAN_RESET (R113), code 0x63. -/
  | fanReset (dst : Byte) (chars : List Byte)
  /-- FETCH_EVENTS (R193), code 0x68. -/
  | fetchEvents (dst : Byte) (chars : List Byte)
  /-- PASS (R175), code 0x70. -/
  | pass (dst : Byte) (chars : List Byte)
  /-- COLLECT (R178), code 0x71. -/
  | collect (dst : Byte) (chars : List Byte)
  /-- OPENING_MARK_RECEIVED (R135). -/
  | openingMarkReceived
  /-- CHECK_VALUE_ERASED (R191). -/
  | checkValueErased
  /-- CHECK_VALUE_WRITTEN (R191). -/
  | checkValueWritten
deriving DecidableEq, Repr

end Sys2Proof
end

