-- ==== Sys2Proof/Decode.lean ====
section
/-! DEFINITION. The decoder of a word of spec/opcode_table.json. The table gives none of its rows any bits: a command is an
event of the part, not a word, so no word spells one (log 33). -/

namespace Sys2Proof

/-- The command a word spells by the table's bits: none, for no row has any (log 33). -/
def decodeTableWord (nbits w : Nat) : Option Instr :=
  match nbits, w with
  | _, _ => none

end Sys2Proof
end

