-- ==== Sys2Proof/Config.lean ====
section
/-! DEFINITION. What the manual leaves open, as constants without a body: nothing in Lean can evaluate them, so a claim
about the model holds whatever the part does there. Each is named in a log entry. -/

namespace Sys2Proof.Config

/-- FREE VALUE (log 4). Where the rules give independent records no order of work ("in no stated order", R121), the
`k`-th choice of the `d`-th such occasion: which of the records still waiting comes next. -/
opaque pick (d k : Nat) : Nat

/-- FREE VALUE (log 11). Whether the part refuses a WRITE-TABLE entry whose packed byte (not a flags byte) has a bit set
that R182 assigns no meaning; where it does not, the bit is ignored. -/
opaque packedBitsRefused : Bool

end Sys2Proof.Config
end

