-- ==== Sys2Proof/Machine/State.lean ====
section
/-! DEFINITION. The state of the part, as plain data, and the state after reset. Each type cites the rule that names it.
Counts and scale-unit values are natural numbers, slot, zone, group, fan and point numbers are indexes of fixed size, and
only what the manual sends or stores as bits is a bit vector. -/

namespace Sys2Proof.Machine

/-! ## Names (R180) -/

/-- What a binding measures (R1, R2). -/
inductive BindingKind where
  | hydrogen | leak | airflow | contact
deriving DecidableEq, Repr

/-- The zone flag a contact drives (R1, R58). -/
inductive Role where
  | purge | equalize
deriving DecidableEq, Repr

/-- A channel's health (R18). -/
inductive Health where
  | disabled | unseen | settling | good | held | stale | underrange | nodeFault
deriving DecidableEq, Repr

/-- What a channel received since the last survey completion (R17, R23). -/
inductive Mark where
  | none | usable | unusable
deriving DecidableEq, Repr

/-- A contact's state (R22). -/
inductive Contact where
  | opened | closed
deriving DecidableEq, Repr

/-- A zone's gas state (R42). -/
inductive Gas where
  | inactive | normal | watch | alert | alarm | fault
deriving DecidableEq, Repr

/-- A zone's spill state (R68). -/
inductive Spill where
  | dry | wet | latched
deriving DecidableEq, Repr

/-- The kind of an override context (R89). -/
inductive OverrideKind where
  | force | hold | manual
deriving DecidableEq, Repr

/-- A fan's state (R104). -/
inductive FanState where
  | off | starting | running | failed | manual
deriving DecidableEq, Repr

/-- Why a fan last failed (R103). -/
inductive Reason where
  | none | noProof | lostFlow
deriving DecidableEq, Repr

/-- A group's condition (R107). -/
inductive Condition where
  | disabled | unavailable | degraded | full
deriving DecidableEq, Repr

/-- A field node's state (R131, R134). -/
inductive NodeState where
  | unknown | online | offline
deriving DecidableEq, Repr

/-- The state of the field segment (R148). -/
inductive Segment where
  | idle | waiting | polling | transit | faulted | released
deriving DecidableEq, Repr

/-- The run mode (R184). -/
inductive Mode where
  | standby | warmup | run
deriving DecidableEq, Repr

/-- The kinds of frame the port sends to a node (R130). -/
inductive FrameKind where
  | query | drive | config
deriving DecidableEq, Repr

/-- The outcome of a transit entry (R174). -/
inductive TransitResult where
  | reply | timeout | abandoned | denied | cancelled
deriving DecidableEq, Repr

/-- The reasons a change record is refused (R164). -/
inductive Reject where
  | keyCollision | chainFull | levelOrder | duplicateDrive | badReference | notInStandby
deriving DecidableEq, Repr

/-- The result of a trunk request (R170). -/
inductive Result where
  | done | partly | busy | full | empty | notNow | notReady | denied | badRequest | badIndex
deriving DecidableEq, Repr

/-- The five tables (R152). -/
inductive TableId where
  | bindings | zones | groups | fans | device
deriving DecidableEq, Repr

/-- The eighteen kinds of event (R183). -/
inductive EventKind where
  | started | modeChange | zoneState | spillState | rising | channelHealth | nodeState | segmentState | cycleOverrun
  | fanState | groupCondition | overrideExpired | applied | tableReject | holdExpired | saveDone | saveFailed
  | serviceRelease
deriving DecidableEq, Repr

/-! ## Table entries (R1, R153, R154) -/

/-- A BINDINGS entry (R1). -/
structure Binding where
  valid : Bool
  node : Nat
  point : Fin 8
  kind : BindingKind
  zone : Fin 16
  zeroOffset : Int
  span : Nat
  shift : Nat
  wetLevel : Nat
  role : Role
deriving DecidableEq, Repr

/-- A ZONES entry (R153). -/
structure ZoneEntry where
  enabled : Bool
  groupMask : BitVec 4
  watch : Nat
  alert : Nat
  alarm : Nat
  hysteresis : Nat
  vote : Nat
  latch : Bool
  rateWindow : Nat
  rateThreshold : Nat
  staleLimit : Nat
  settleCount : Nat
  spillHysteresis : Nat
deriving DecidableEq, Repr

/-- A group's stage map (R79). -/
structure StageMap where
  base : Nat
  watch : Nat
  alert : Nat
  alarm : Nat
  fault : Nat
  rising : Nat
  spill : Nat
  purge : Nat
  equalize : Nat
  warmup : Nat
deriving DecidableEq, Repr

/-- A GROUPS entry (R153). -/
structure GroupEntry where
  speed : Vector Nat 4
  runCount : Nat
  stageMap : StageMap
  runOn : Nat
  proofTimeout : Nat
deriving DecidableEq, Repr

/-- A FANS entry (R154). -/
structure FanEntry where
  enabled : Bool
  driveNode : Nat
  group : Fin 4
  order : Fin 4
  airflowSlot : Option (Fin 64)
  proofLevel : Nat
deriving DecidableEq, Repr

/-- The DEVICE entry (R154). -/
structure DeviceEntry where
  surveyPeriod : Nat
  replyTimeout : Nat
  retries : Nat
  transitAllowance : Nat
  warmupCount : Nat
  fastField : Bool
  holdLimit : Nat
  releaseEnable : Bool
deriving DecidableEq, Repr

/-- The five active tables (R152). -/
structure Tables where
  bindings : Vector Binding 64
  zones : Vector ZoneEntry 16
  groups : Vector GroupEntry 4
  fans : Vector FanEntry 8
  device : DeviceEntry
deriving DecidableEq, Repr

/-- A change record: table, index and the whole content of the entry (R155). -/
inductive Change where
  | binding (i : Fin 64) (e : Binding)
  | zone (i : Fin 16) (e : ZoneEntry)
  | group (i : Fin 4) (e : GroupEntry)
  | fan (i : Fin 8) (e : FanEntry)
  | device (e : DeviceEntry)
deriving DecidableEq, Repr

/-! ## Runtime records -/

/-- A channel record (R17). -/
structure ChannelRecord where
  health : Health
  filtered : Nat
  conditioned : Nat
  raw : Nat
  contact : Contact
  lowClamp : Bool
  overrange : Bool
  age : Nat
  settleLeft : Nat
  mark : Mark
deriving DecidableEq, Repr

/-- A zone record, the spill fields included (R41, R68). -/
structure ZoneRecord where
  gas : Gas
  reading : Nat
  healthy : Nat
  settling : Nat
  bound : Nat
  alarmVotes : Nat
  effectiveVote : Nat
  /-- Oldest first (R55). -/
  ring : List Nat
  rising : Bool
  purge : Bool
  equalize : Bool
  noSense : Bool
  alarmAck : Bool
  spill : Spill
  spillAck : Bool
  spillBlind : Bool
deriving DecidableEq, Repr

/-- An override context (R89). -/
structure Context where
  kind : OverrideKind
  stage : Nat
  expiry : Nat
  tag : Half
deriving DecidableEq, Repr

/-- A group record (R78), with the run set and the condition the fan supervisor holds for the group (R105, R107). -/
structure GroupRecord where
  demand : Nat
  floor : Nat
  effective : Nat
  commanded : Nat
  runOn : Nat
  /-- The override stack, its TOP context first (R89). -/
  stack : List Context
  handOver : Bool
  /-- In selection order (R105). -/
  runSet : List (Fin 8)
  condition : Condition
deriving DecidableEq, Repr

/-- The runtime part of a fan record (R103). -/
structure FanRecord where
  state : FanState
  timer : Nat
  streak : Nat
  reason : Reason
  setpoint : Nat
  /-- The fan entered STARTING since its group's last group step began (R109 part (b), log 39). -/
  fresh : Bool
deriving DecidableEq, Repr

/-- The levels of the four contact outputs; true is energized (R120). -/
structure Outputs where
  chargePermit : Bool
  ventProven : Bool
  beacon : Bool
  healthy : Bool
deriving DecidableEq, Repr

/-- A poll list entry with its node record (R131). -/
structure PollEntry where
  address : Nat
  mask : Byte
  /-- The enabled fan whose drive node the address is: the role is DRIVE when there is one, else SENSOR. -/
  fan : Option (Fin 8)
  state : NodeState
  miss : Nat
  errors : Nat
deriving DecidableEq, Repr

/-- A frame of either segment, without its opening mark, length and CRC (R128, R179). -/
structure Frame where
  dst : Byte
  src : Byte
  kind : Byte
  payload : List Byte
deriving DecidableEq, Repr

/-- Whose transaction is in flight (R135). -/
inductive Owner where
  | poll (address : Nat)
  | transit
deriving DecidableEq, Repr

/-- How far an attempt has come (R135). -/
inductive Phase where
  /-- The frame is being sent and read back. -/
  | sending
  /-- The frame is sent; the port waits for an opening mark. -/
  | awaiting
  /-- An opening mark has come; a reception runs. -/
  | receiving
  /-- The attempt failed with attempts remaining; the port waits for an idle line. -/
  | gap
deriving DecidableEq, Repr

/-- The transaction in flight on the field segment (R135). -/
structure Transaction where
  owner : Owner
  frame : Frame
  /-- Attempts allowed after the present one. -/
  left : Nat
  phase : Phase
deriving DecidableEq, Repr

/-- The progress and outcome of a transit entry (R174). -/
inductive TransitState where
  | waiting
  | sent
  | done (result : TransitResult)
deriving DecidableEq, Repr

/-- A transit entry (R174). -/
structure TransitEntry where
  sequence : Byte
  dest : Nat
  kind : FrameKind
  payload : List Byte
  state : TransitState
  /-- For result REPLY, the payload of the READING as received. -/
  reading : List Byte
deriving DecidableEq, Repr

/-- The trunk port (R169). -/
inductive TrunkPort where
  | listening
  /-- The reply being sent, and whether the straps are read when it has been sent (R189). -/
  | answering (reply : Frame) (readStraps : Bool)
deriving DecidableEq, Repr

/-- The nonvolatile table store: the image bytes and the check value, none when it is erased (R190, R191). -/
structure Store where
  image : List Byte
  check : Option Half
deriving DecidableEq, Repr

/-- How far a store write has come (R191). -/
inductive WritePhase where
  | accepted | erased | written
deriving DecidableEq, Repr

/-- A SAVE in flight (R191). -/
structure Save where
  snapshot : Tables
  phase : WritePhase
deriving DecidableEq, Repr

/-- An event record (R192). -/
structure EventRecord where
  kind : EventKind
  subject : Byte
  detail : Half
  stamp : BitVec 32
  repeats : Nat
deriving DecidableEq, Repr

/-- A piece of the work of one survey completion (R142, R43, R86, R109). -/
inductive Work where
  /-- The aging of every channel (R32). -/
  | age
  /-- The evaluation of one enabled zone (R43). -/
  | evaluate (z : Fin 16)
  /-- The end of the evaluation pass (R121). -/
  | endPass
  /-- A group step begins (R86). -/
  | stepBegins (g : Fin 4)
  /-- Step 1: the top context counts its expiry (R92). -/
  | countExpiry (g : Fin 4)
  /-- Step 2: the stage update (R87). -/
  | stageUpdate (g : Fin 4)
  /-- Step 3 (a): starts and stops (R109). -/
  | startsStops (g : Fin 4)
  /-- Step 3 (b) and (c): the judgements of the group's fans, and failover (R110 to R112). -/
  | supervise (g : Fin 4)
  /-- Step 3 (d): setpoints (R108); the group step finishes (R121). -/
  | setpoints (g : Fin 4)
  /-- The hold count (R158). -/
  | countHold
  /-- The warmup count (R186). -/
  | countWarmup
  /-- The FAULTED countdown of an empty cycle (R145). -/
  | countFaulted
  /-- The completion's work is done: transit dispatch on a segment still POLLING (R142, R143). -/
  | close
deriving DecidableEq, Repr

/-! ## Outcomes -/

/-- No rule of the spec stops the part: there is no fault, and this type is empty. -/
inductive Fault where
deriving DecidableEq, Repr

/-- Why a command has no meaning in the model. -/
inductive Refusal where
  /-- Raised by an arm of `exec` for a row that has no meaning yet; no arm does. Safe: the run stops. -/
  | notModelled (mnemonic : String)
deriving DecidableEq, Repr

/-! ## The state -/

/-- The state of the part. INVENTORY.md lists each field with its rule and reset value. -/
structure State where
  /-- The commands that wait, first in, first out. The model's own. -/
  pending : List Instr
  /-- What is left of a survey completion that has come to the end of a count (log 1). The model's own. -/
  work : List Work
  /-- How many unstated orders have been drawn (log 4). The model's own. -/
  draws : Nat
  /-- RESETN is held low (R188). -/
  inReset : Bool
  mode : Mode
  warmupLeft : Nat
  tables : Tables
  /-- The bucket chains, head first (R3). -/
  chains : Vector (List (Fin 64)) 16
  channels : Vector ChannelRecord 64
  zones : Vector ZoneRecord 16
  groups : Vector GroupRecord 4
  fans : Vector FanRecord 8
  outputs : Outputs
  segment : Segment
  timerOn : Bool
  deferredTick : Bool
  cycleCount : BitVec 32
  contention : Nat
  countdown : Nat
  transaction : Option Transaction
  dispatched : Nat
  /-- SRELN is held low: the service release line is asserted (R146). -/
  releaseLine : Bool
  pollList : List PollEntry
  /-- The pending-change list, oldest first (R155). -/
  changes : List Change
  hold : Bool
  holdCount : Nat
  /-- The transit queue, oldest first (R174). -/
  transits : List TransitEntry
  transitCount : Byte
  trunkPort : TrunkPort
  trunkAddress : BitVec 7
  trunkRate : Bool
  store : Store
  storeValid : Bool
  save : Option Save
  /-- The event queue, oldest first (R192). -/
  events : List EventRecord
  lost : Nat
deriving DecidableEq, Repr

/-! ## Default table entries (R153, R154) and records after reset -/

/-- The default BINDINGS entry (R154). -/
def Binding.default : Binding :=
  { valid := false, node := 1, point := 0, kind := .hydrogen, zone := 0, zeroOffset := 0, span := 256, shift := 0,
    wetLevel := 500, role := .purge }

/-- The default ZONES entry (R153). -/
def ZoneEntry.default : ZoneEntry :=
  { enabled := false, groupMask := 0, watch := 100, alert := 250, alarm := 400, hysteresis := 30, vote := 2,
    latch := true, rateWindow := 4, rateThreshold := 40, staleLimit := 3, settleCount := 2, spillHysteresis := 50 }

/-- The default stage map (R79, R153). -/
def StageMap.default : StageMap :=
  { base := 0, watch := 1, alert := 2, alarm := 4, fault := 4, rising := 2, spill := 3, purge := 4, equalize := 1,
    warmup := 1 }

/-- The default GROUPS entry (R153). -/
def GroupEntry.default : GroupEntry :=
  { speed := #v[25, 50, 75, 100], runCount := 1, stageMap := StageMap.default, runOn := 30, proofTimeout := 10 }

/-- The default FANS entry (R154). -/
def FanEntry.default : FanEntry :=
  { enabled := false, driveNode := 1, group := 0, order := 0, airflowSlot := none, proofLevel := 150 }

/-- The default DEVICE entry (R154). -/
def DeviceEntry.default : DeviceEntry :=
  { surveyPeriod := 1000, replyTimeout := 20, retries := 2, transitAllowance := 2, warmupCount := 8, fastField := false,
    holdLimit := 120, releaseEnable := false }

/-- Every entry of every table at its default contents (R152). -/
def Tables.default : Tables :=
  { bindings := Vector.replicate 64 Binding.default, zones := Vector.replicate 16 ZoneEntry.default,
    groups := Vector.replicate 4 GroupEntry.default, fans := Vector.replicate 8 FanEntry.default,
    device := DeviceEntry.default }

/-- A channel record restarted with the given health, every other field at its reset value (R30, R36, R37). -/
def ChannelRecord.restarted (h : Health) : ChannelRecord :=
  { health := h, filtered := 0, conditioned := 0, raw := 0, contact := .opened, lowClamp := false, overrange := false,
    age := 0, settleLeft := 0, mark := .none }

/-- A zone record with the given gas state, every other field, the spill fields among them, at 0, empty, clear or DRY
(R66, R76). -/
def ZoneRecord.cleared (gas : Gas) : ZoneRecord :=
  { gas := gas, reading := 0, healthy := 0, settling := 0, bound := 0, alarmVotes := 0, effectiveVote := 0, ring := [],
    rising := false, purge := false, equalize := false, noSense := false, alarmAck := false, spill := .dry,
    spillAck := false, spillBlind := false }

/-- A group record after device reset or RESTART, before its run set is computed (R101). -/
def GroupRecord.cleared : GroupRecord :=
  { demand := 0, floor := 0, effective := 0, commanded := 0, runOn := 0, stack := [], handOver := false, runSet := [],
    condition := .disabled }

/-- A fan's runtime fields after device reset or RESTART, and after an applied change (R116, R117). -/
def FanRecord.cleared : FanRecord := { state := .off, timer := 0, streak := 0, reason := .none, setpoint := 0, fresh := false }

/-- Every output de-energized (R127). -/
def Outputs.off : Outputs := { chargePermit := false, ventProven := false, beacon := false, healthy := false }

/-- The part right after reset, its store failing the check (R188, R190): STANDBY, the default tables, one STARTED event.
DESIGN CHOICE (unsafe): the strap levels (log 6), the release line (log 7), the store's contents (log 8) and the model's own
fields (log 5). -/
def State.reset : State :=
  { pending := [], work := [], draws := 0, inReset := false, mode := .standby, warmupLeft := 0, tables := Tables.default,
    chains := Vector.replicate 16 [], channels := Vector.replicate 64 (ChannelRecord.restarted .disabled),
    zones := Vector.replicate 16 (ZoneRecord.cleared .inactive), groups := Vector.replicate 4 GroupRecord.cleared,
    fans := Vector.replicate 8 FanRecord.cleared, outputs := Outputs.off, segment := .idle, timerOn := false,
    deferredTick := false, cycleCount := 0, contention := 0, countdown := 0, transaction := none, dispatched := 0,
    releaseLine := false, pollList := [], changes := [], hold := false, holdCount := 0, transits := [],
    transitCount := 0, trunkPort := .listening, trunkAddress := 1, trunkRate := false,
    store := { image := [], check := none }, storeValid := false, save := none,
    events := [{ kind := .started, subject := 0, detail := 0, stamp := 0, repeats := 1 }], lost := 0 }

end Sys2Proof.Machine
end

