-- ==== Sys2Proof/Machine/Operands.lean ====
section
/-! DEFINITION. Every operand form of the part: the CRC and the frames of both segments (R128, R179), the codes (R180), the
five entry layouts read and written (R182), and the store image made of them (R190). -/

namespace Sys2Proof.Machine

/-! ## Bytes -/

/-- A number as one byte. -/
def byteOf (n : Nat) : Byte := BitVec.ofNat 8 n

/-- A 16-bit value as two bytes, high byte first (R179). -/
def halfBytes (h : Half) : List Byte := [h.extractLsb' 8 8, h.extractLsb' 0 8]

/-- A number as two bytes, high byte first (R179). -/
def halfOf (n : Nat) : List Byte := halfBytes (BitVec.ofNat 16 n)

/-- Two bytes as a 16-bit value, the first the high one (R179). -/
def joinBytes (hi lo : Byte) : Half := hi ++ lo

/-- A flag as a byte: 1 set, 0 clear (log 12). -/
def flagByte (b : Bool) : Byte := byteOf b.toNat

/-- A number as an index below `n`, when it is one. -/
def finOf (n k : Nat) : Option (Fin n) := if h : k < n then some ⟨k, h⟩ else none

/-- A 32-bit value as four bytes, high byte first (R179, R183). -/
def wordBytes (w : BitVec 32) : List Byte :=
  [w.extractLsb' 24 8, w.extractLsb' 16 8, w.extractLsb' 8 8, w.extractLsb' 0 8]

/-! ## CRC and frames -/

/-- One bit into the CRC: polynomial 0x1021 (R128). -/
def crcBit (c : Half) (b : Bool) : Half := if c.msb != b then (c <<< 1) ^^^ 0x1021 else c <<< 1

/-- One byte into the CRC, most significant bit first (R128). -/
def crcByte (c : Half) (x : Byte) : Half :=
  [7, 6, 5, 4, 3, 2, 1, 0].foldl (fun c i => crcBit c (x.getLsbD i)) c

/-- The CRC of R128: initial value 0xFFFF, no reflection, no final inversion. -/
def crc (bs : List Byte) : Half := bs.foldl crcByte 0xFFFF

/-- The bytes the CRC covers: from the destination through the last payload byte (R128). -/
def frameBody (f : Frame) : List Byte := [f.dst, f.src, f.kind, byteOf f.payload.length] ++ f.payload

/-- The characters of a frame that follow its opening mark (R128, R179). -/
def markedChars (f : Frame) : List Byte := frameBody f ++ halfBytes (crc (frameBody f))

/-- The characters of a frame as they stand on the line (R128, R179). -/
def frameChars (f : Frame) : List Byte := 0xA5 :: markedChars f

/-- The outcome of a reception on either segment (R129, R168), framing errors apart. -/
inductive Reception where
  /-- The characters are fewer than the reception takes: it has not ended. -/
  | unfinished
  | malformed
  | crcError
  | frame (f : Frame)
deriving DecidableEq, Repr

/-- The longest payload of a field frame (R128). -/
def fieldLimit : Nat := 60

/-- The longest payload of a trunk frame (R168). -/
def trunkLimit : Nat := 120

/-- R129, R168: what a reception makes of the characters taken after the opening mark, `limit` being the segment's length
limit. -/
def receive (limit : Nat) (chars : List Byte) : Reception :=
  match chars with
  | dst :: src :: kind :: len :: rest =>
    if limit < len.toNat then .malformed
    else
      match rest.drop len.toNat with
      | hi :: lo :: _ =>
        let f : Frame := { dst := dst, src := src, kind := kind, payload := rest.take len.toNat }
        if crc (frameBody f) = joinBytes hi lo then .frame f else .crcError
      | _ => .unfinished
  | _ => .unfinished

/-! ## Field frames (R130, R179) -/

/-- The kind codes of R130. -/
def FrameKind.code : FrameKind → Nat
  | .query => 0x10
  | .drive => 0x12
  | .config => 0x13

/-- The kind code of a READING (R130). -/
def readingCode : Byte := 0x11

/-- A frame from the controller (field address 0) to a node (R128). -/
def fieldFrame (dest : Nat) (kind : FrameKind) (payload : List Byte) : Frame :=
  { dst := byteOf dest, src := 0, kind := byteOf kind.code, payload := payload }

/-- One point record of a READING (R130, R179). -/
structure PointRecord where
  point : Nat
  warm : Bool
  fault : Bool
  raw : Nat
deriving DecidableEq, Repr

/-- The point records that follow the node status byte, three bytes each; none when the bytes do not divide so (R130). -/
def pointRecords : List Byte → Option (List PointRecord)
  | [] => some []
  | a :: hi :: lo :: rest =>
    (pointRecords rest).map fun ps =>
      { point := (a.extractLsb' 0 4).toNat, warm := a.getLsbD 4, fault := a.getLsbD 5,
        raw := ((joinBytes hi lo).extractLsb' 0 12).toNat } :: ps
  | _ => none

/-- The point records of a valid READING payload: 0 to 8 of them, numbers 0..7, none twice (R130). -/
def readingPoints (payload : List Byte) : Option (List PointRecord) :=
  match payload with
  | [] => none
  | _ :: rest =>
    match pointRecords rest with
    | some ps => if ps.length ≤ 8 ∧ (∀ p ∈ ps, p.point < 8) ∧ (ps.map (·.point)).Nodup then some ps else none
    | none => none

/-- R130: the frame is a valid reply to an attempt sent to address `dest`. -/
def validReply (dest : Byte) (f : Frame) : Bool :=
  f.dst == 0 && f.src == dest && f.kind == readingCode && (readingPoints f.payload).isSome

/-! ## Codes (R180) -/

def BindingKind.code : BindingKind → Nat
  | .hydrogen => 0 | .leak => 1 | .airflow => 2 | .contact => 3

def Role.code : Role → Nat
  | .purge => 0 | .equalize => 1

def Health.code : Health → Nat
  | .disabled => 0 | .unseen => 1 | .settling => 2 | .good => 3 | .held => 4 | .stale => 5 | .underrange => 6
  | .nodeFault => 7

def Mark.code : Mark → Nat
  | .none => 0 | .usable => 1 | .unusable => 2

/-- DEDUCED (log 12): R180 gives the contact state no code. -/
def Contact.code : Contact → Nat
  | .opened => 0 | .closed => 1

def Gas.code : Gas → Nat
  | .inactive => 0 | .normal => 1 | .watch => 2 | .alert => 3 | .alarm => 4 | .fault => 5

def Spill.code : Spill → Nat
  | .dry => 0 | .wet => 1 | .latched => 2

def OverrideKind.code : OverrideKind → Nat
  | .force => 0 | .hold => 1 | .manual => 2

def FanState.code : FanState → Nat
  | .off => 0 | .starting => 1 | .running => 2 | .failed => 3 | .manual => 4

def Reason.code : Reason → Nat
  | .none => 0 | .noProof => 1 | .lostFlow => 2

def Condition.code : Condition → Nat
  | .disabled => 0 | .unavailable => 1 | .degraded => 2 | .full => 3

def NodeState.code : NodeState → Nat
  | .unknown => 0 | .online => 1 | .offline => 2

def Segment.code : Segment → Nat
  | .idle => 0 | .waiting => 1 | .polling => 2 | .transit => 3 | .faulted => 4 | .released => 5

def Mode.code : Mode → Nat
  | .standby => 0 | .warmup => 1 | .run => 2

def TransitResult.code : TransitResult → Nat
  | .reply => 0 | .timeout => 1 | .abandoned => 2 | .denied => 3 | .cancelled => 4

def Reject.code : Reject → Nat
  | .keyCollision => 1 | .chainFull => 2 | .levelOrder => 3 | .duplicateDrive => 4 | .badReference => 5
  | .notInStandby => 6

def Result.code : Result → Nat
  | .done => 0 | .partly => 1 | .busy => 2 | .full => 3 | .empty => 4 | .notNow => 5 | .notReady => 6 | .denied => 7
  | .badRequest => 8 | .badIndex => 9

/-- The table ids of R152. -/
def TableId.code : TableId → Nat
  | .bindings => 1 | .zones => 2 | .groups => 3 | .fans => 4 | .device => 5

/-- The event codes of R183. -/
def EventKind.code : EventKind → Nat
  | .started => 1 | .modeChange => 2 | .zoneState => 3 | .spillState => 4 | .rising => 5 | .channelHealth => 6
  | .nodeState => 7 | .segmentState => 8 | .cycleOverrun => 9 | .fanState => 10 | .groupCondition => 11
  | .overrideExpired => 12 | .applied => 13 | .tableReject => 14 | .holdExpired => 15 | .saveDone => 16
  | .saveFailed => 17 | .serviceRelease => 18

/-- The code for "none" of an airflow slot, fan or chain position (R180). -/
def noneCode : Byte := 0xFF

/-- An optional index as its byte (R180). -/
def optionByte {n : Nat} : Option (Fin n) → Byte
  | some i => byteOf i.val
  | none => noneCode

def kindOfCode (c : BitVec 2) : BindingKind :=
  if c = 0 then .hydrogen else if c = 1 then .leak else if c = 2 then .airflow else .contact

def tableOfCode (n : Nat) : Option TableId :=
  if n = 1 then some .bindings else if n = 2 then some .zones else if n = 3 then some .groups
  else if n = 4 then some .fans else if n = 5 then some .device else none

def overrideOfCode (n : Nat) : Option OverrideKind :=
  if n = 0 then some .force else if n = 1 then some .hold else if n = 2 then some .manual else none

def frameKindOfCode (n : Nat) : Option FrameKind :=
  if n = 0x10 then some .query else if n = 0x12 then some .drive else if n = 0x13 then some .config else none

/-! ## Ranges of the entry fields (R1, R153, R154) -/

def Binding.inRange (e : Binding) : Bool :=
  decide (1 ≤ e.node ∧ e.node ≤ 126 ∧ -512 ≤ e.zeroOffset ∧ e.zeroOffset ≤ 511 ∧ 1 ≤ e.span ∧ e.span ≤ 4095 ∧
    e.shift ≤ 4 ∧ e.wetLevel ≤ 1000)

def ZoneEntry.inRange (e : ZoneEntry) : Bool :=
  decide (e.watch ≤ 1000 ∧ e.alert ≤ 1000 ∧ e.alarm ≤ 1000 ∧ e.hysteresis ≤ 200 ∧ 1 ≤ e.vote ∧ e.vote ≤ 4 ∧
    1 ≤ e.rateWindow ∧ e.rateWindow ≤ 7 ∧ 10 ≤ e.rateThreshold ∧ e.rateThreshold ≤ 500 ∧ 1 ≤ e.staleLimit ∧
    e.staleLimit ≤ 15 ∧ 1 ≤ e.settleCount ∧ e.settleCount ≤ 8 ∧ 10 ≤ e.spillHysteresis ∧ e.spillHysteresis ≤ 200)

def StageMap.inRange (m : StageMap) : Bool :=
  decide (m.base ≤ 4 ∧ m.watch ≤ 4 ∧ m.alert ≤ 4 ∧ m.alarm ≤ 4 ∧ m.fault ≤ 4 ∧ m.rising ≤ 4 ∧ m.spill ≤ 4 ∧
    m.purge ≤ 4 ∧ m.equalize ≤ 4 ∧ m.warmup ≤ 4)

def GroupEntry.inRange (e : GroupEntry) : Bool :=
  decide (e.speed[0] ≤ 100 ∧ e.speed[1] ≤ 100 ∧ e.speed[2] ≤ 100 ∧ e.speed[3] ≤ 100 ∧ 1 ≤ e.runCount ∧
    e.runCount ≤ 4 ∧ e.runOn ≤ 600 ∧ 2 ≤ e.proofTimeout ∧ e.proofTimeout ≤ 60) && e.stageMap.inRange

def FanEntry.inRange (e : FanEntry) : Bool :=
  decide (1 ≤ e.driveNode ∧ e.driveNode ≤ 126 ∧ e.proofLevel ≤ 1000)

def DeviceEntry.inRange (e : DeviceEntry) : Bool :=
  decide (250 ≤ e.surveyPeriod ∧ e.surveyPeriod ≤ 4000 ∧ e.surveyPeriod % 250 = 0 ∧ 5 ≤ e.replyTimeout ∧
    e.replyTimeout ≤ 50 ∧ e.retries ≤ 3 ∧ 1 ≤ e.transitAllowance ∧ e.transitAllowance ≤ 4 ∧ 2 ≤ e.warmupCount ∧
    e.warmupCount ≤ 60 ∧ 10 ≤ e.holdLimit ∧ e.holdLimit ≤ 600)

/-! ## Entry layouts (R182) -/

/-- The bytes of one entry of a table (R182). -/
def entrySize : TableId → Nat
  | .bindings => 11 | .zones => 13 | .groups => 13 | .fans => 6 | .device => 9

/-- The number of indexes of a table (R152). -/
def tableSize : TableId → Nat
  | .bindings => 64 | .zones => 16 | .groups => 4 | .fans => 8 | .device => 1

def encodeBinding (e : Binding) : List Byte :=
  [byteOf (e.valid.toNat + 2 * e.kind.code + 8 * e.role.code), byteOf e.node, byteOf e.point.val, byteOf e.zone.val] ++
    halfBytes (BitVec.ofInt 16 e.zeroOffset) ++ halfOf e.span ++ [byteOf e.shift] ++ halfOf e.wetLevel

def decodeBinding : List Byte → Option Binding
  | [f, node, point, zone, o1, o0, s1, s0, k, w1, w0] =>
    match finOf 8 point.toNat, finOf 16 zone.toNat with
    | some p, some z =>
      let e : Binding :=
        { valid := f.getLsbD 0, node := node.toNat, point := p, kind := kindOfCode (f.extractLsb' 1 2), zone := z,
          zeroOffset := (joinBytes o1 o0).toInt, span := (joinBytes s1 s0).toNat, shift := k.toNat,
          wetLevel := (joinBytes w1 w0).toNat, role := if f.getLsbD 3 then .equalize else .purge }
      if e.inRange then some e else none
    | _, _ => none
  | _ => none

def encodeZone (e : ZoneEntry) : List Byte :=
  [byteOf (e.enabled.toNat + 2 * e.latch.toNat + 16 * e.groupMask.toNat)] ++ halfOf e.watch ++ halfOf e.alert ++
    halfOf e.alarm ++ [byteOf e.hysteresis, byteOf (e.vote + 16 * e.rateWindow)] ++ halfOf e.rateThreshold ++
    [byteOf (e.staleLimit + 16 * e.settleCount), byteOf e.spillHysteresis]

def decodeZone : List Byte → Option ZoneEntry
  | [f, w1, w0, a1, a0, m1, m0, h, v, t1, t0, c, p] =>
    let e : ZoneEntry :=
      { enabled := f.getLsbD 0, groupMask := f.extractLsb' 4 4, watch := (joinBytes w1 w0).toNat,
        alert := (joinBytes a1 a0).toNat, alarm := (joinBytes m1 m0).toNat, hysteresis := h.toNat,
        vote := (v.extractLsb' 0 3).toNat, latch := f.getLsbD 1, rateWindow := (v.extractLsb' 4 3).toNat,
        rateThreshold := (joinBytes t1 t0).toNat, staleLimit := (c.extractLsb' 0 4).toNat,
        settleCount := (c.extractLsb' 4 4).toNat, spillHysteresis := p.toNat }
    if e.inRange then some e else none
  | _ => none

/-- Two stages in one byte, the first in the high half (R182). -/
def stagePair (a b : Nat) : Byte := byteOf (16 * a + b)

def encodeGroup (e : GroupEntry) : List Byte :=
  [byteOf e.speed[0], byteOf e.speed[1], byteOf e.speed[2], byteOf e.speed[3], byteOf e.runCount,
    stagePair e.stageMap.base e.stageMap.watch, stagePair e.stageMap.alert e.stageMap.alarm,
    stagePair e.stageMap.fault e.stageMap.rising, stagePair e.stageMap.spill e.stageMap.purge,
    stagePair e.stageMap.equalize e.stageMap.warmup] ++ halfOf e.runOn ++ [byteOf e.proofTimeout]

def decodeGroup : List Byte → Option GroupEntry
  | [s1, s2, s3, s4, n, m0, m1, m2, m3, m4, r1, r0, t] =>
    let hi (b : Byte) : Nat := (b.extractLsb' 4 4).toNat
    let lo (b : Byte) : Nat := (b.extractLsb' 0 4).toNat
    let e : GroupEntry :=
      { speed := #v[s1.toNat, s2.toNat, s3.toNat, s4.toNat], runCount := n.toNat,
        stageMap :=
          { base := hi m0, watch := lo m0, alert := hi m1, alarm := lo m1, fault := hi m2, rising := lo m2,
            spill := hi m3, purge := lo m3, equalize := hi m4, warmup := lo m4 },
        runOn := (joinBytes r1 r0).toNat, proofTimeout := t.toNat }
    if e.inRange then some e else none
  | _ => none

def encodeFan (e : FanEntry) : List Byte :=
  [flagByte e.enabled, byteOf e.driveNode, byteOf (e.group.val + 16 * e.order.val), optionByte e.airflowSlot] ++
    halfOf e.proofLevel

/-- The airflow slot of its byte: none for 0xFF, nothing for 64..254 (R180, R154). -/
def slotOfByte (b : Byte) : Option (Option (Fin 64)) :=
  if b = noneCode then some none else (finOf 64 b.toNat).map some

def decodeFan : List Byte → Option FanEntry
  | [f, node, go, slot, p1, p0] =>
    match slotOfByte slot with
    | some a =>
      let e : FanEntry :=
        { enabled := f.getLsbD 0, driveNode := node.toNat, group := (go.extractLsb' 0 2).toFin,
          order := (go.extractLsb' 4 2).toFin, airflowSlot := a, proofLevel := (joinBytes p1 p0).toNat }
      if e.inRange then some e else none
    | none => none
  | _ => none

def encodeDevice (e : DeviceEntry) : List Byte :=
  [byteOf (e.surveyPeriod / 250), byteOf e.replyTimeout, byteOf e.retries, byteOf e.transitAllowance,
    byteOf e.warmupCount, flagByte e.fastField] ++ halfOf e.holdLimit ++ [flagByte e.releaseEnable]

/-- A field rate byte other than 0 and 1 is a field outside its range (R154, R182; log 28). -/
def decodeDevice : List Byte → Option DeviceEntry
  | [u, t, r, a, w, f, h1, h0, g] =>
    let e : DeviceEntry :=
      { surveyPeriod := 250 * u.toNat, replyTimeout := t.toNat, retries := r.toNat, transitAllowance := a.toNat,
        warmupCount := w.toNat, fastField := f.getLsbD 0, holdLimit := (joinBytes h1 h0).toNat,
        releaseEnable := g.getLsbD 0 }
    if f.toNat ≤ 1 && e.inRange then some e else none
  | _ => none

/-- The append check of one entry (R156): its index within the table's range, every field within its own; the change
record it makes. -/
def decodeChange (t : TableId) (index : Nat) (bs : List Byte) : Option Change :=
  match t with
  | .bindings => (finOf 64 index).bind fun i => (decodeBinding bs).map (Change.binding i)
  | .zones => (finOf 16 index).bind fun i => (decodeZone bs).map (Change.zone i)
  | .groups => (finOf 4 index).bind fun i => (decodeGroup bs).map (Change.group i)
  | .fans => (finOf 8 index).bind fun i => (decodeFan bs).map (Change.fan i)
  | .device => if index = 0 then (decodeDevice bs).map Change.device else none

/-- Bits of the flags byte that R182 assigns no meaning (10.4, R170). -/
def strayFlags (t : TableId) (bs : List Byte) : Bool :=
  match t with
  | .bindings => (bs.getD 0 0 &&& 0xF0) != 0
  | .zones => (bs.getD 0 0 &&& 0x0C) != 0
  | .groups => false
  | .fans => (bs.getD 0 0 &&& 0xFE) != 0
  | .device => (bs.getD 8 0 &&& 0xFE) != 0

/-- Bits of the packed bytes (vote and rate window; group and order) that R182 assigns no meaning (log 11). -/
def strayPacked (t : TableId) (bs : List Byte) : Bool :=
  match t with
  | .zones => (bs.getD 8 0 &&& 0x88) != 0
  | .fans => (bs.getD 2 0 &&& 0xCC) != 0
  | _ => false

/-- The entry is of the request's form (R170 stage 2): no unassigned flag bit; an unassigned bit of a packed byte is
refused or ignored as the part does (log 11). -/
def entryWellFormed (t : TableId) (bs : List Byte) : Bool :=
  !strayFlags t bs && (if strayPacked t bs then !Config.packedBitsRefused else true)

/-- A byte string cut into `n` pieces of `k` bytes. -/
def pieces (k : Nat) : Nat → List Byte → List (List Byte)
  | 0, _ => []
  | n + 1, bs => bs.take k :: pieces k n (bs.drop k)

/-- The layout of an active entry, without READ-TABLE's derived bytes (R182); nothing for an index outside the table. -/
def encodeEntry (ts : Tables) (t : TableId) (index : Nat) : Option (List Byte) :=
  match t with
  | .bindings => (finOf 64 index).map fun i => encodeBinding ts.bindings[i]
  | .zones => (finOf 16 index).map fun i => encodeZone ts.zones[i]
  | .groups => (finOf 4 index).map fun i => encodeGroup ts.groups[i]
  | .fans => (finOf 8 index).map fun i => encodeFan ts.fans[i]
  | .device => if index = 0 then some (encodeDevice ts.device) else none

/-! ## The store image (R190) -/

/-- The image of the five tables, in table-id order and then in index order (R190). -/
def encodeTables (ts : Tables) : List Byte :=
  ts.bindings.toList.flatMap encodeBinding ++ ts.zones.toList.flatMap encodeZone ++
    ts.groups.toList.flatMap encodeGroup ++ ts.fans.toList.flatMap encodeFan ++ encodeDevice ts.device

/-- Every piece decoded, or nothing. -/
def decodeAll {α : Type} (f : List Byte → Option α) : List (List Byte) → Option (List α)
  | [] => some []
  | b :: bs =>
    match f b, decodeAll f bs with
    | some x, some xs => some (x :: xs)
    | _, _ => none

/-- A list of the right length as a vector. -/
def vectorOf {α : Type} (n : Nat) (xs : List α) : Option (Vector α n) :=
  if h : xs.length = n then some ⟨xs.toArray, by simpa using h⟩ else none

/-- One table's entries read from the front of an image. -/
def decodeSection {α : Type} (n k : Nat) (f : List Byte → Option α) (bs : List Byte) : Option (Vector α n) :=
  (decodeAll f (pieces k n bs)).bind (vectorOf n)

/-- The five tables of an image, or nothing when it is no image (R190). -/
def decodeTables (bs : List Byte) : Option Tables :=
  match decodeSection 64 11 decodeBinding bs, decodeSection 16 13 decodeZone (bs.drop 704),
    decodeSection 4 13 decodeGroup (bs.drop 912), decodeSection 8 6 decodeFan (bs.drop 964),
    decodeDevice (bs.drop 1012) with
  | some b, some z, some g, some f, some d => some { bindings := b, zones := z, groups := g, fans := f, device := d }
  | _, _, _, _, _ => none

end Sys2Proof.Machine
end

