-- ==== Sys2Proof/Machine/Ops.lean ====
section
/-! DEFINITION. The named operations over the records: replacing one record, drawing an order the rules leave open (log 4),
posting an event (R192), and the reads of tables and records that several blocks share. -/

namespace Sys2Proof.Machine

/-! ## Replacing one record -/

def setChannel (i : Fin 64) (r : ChannelRecord) (s : State) : State := { s with channels := s.channels.set i r }

def setZone (z : Fin 16) (r : ZoneRecord) (s : State) : State := { s with zones := s.zones.set z r }

def setGroup (g : Fin 4) (r : GroupRecord) (s : State) : State := { s with groups := s.groups.set g r }

def setFan (f : Fin 8) (r : FanRecord) (s : State) : State := { s with fans := s.fans.set f r }

/-! ## Orders the rules leave open (log 4) -/

/-- The list in an order chosen by the free value `Config.pick`, at most `n` choices. A list of one or none has one
order. -/
def orderFrom {α : Type} (d : Nat) : Nat → List α → List α
  | 0, xs => xs
  | _ + 1, [] => []
  | _ + 1, [x] => [x]
  | k + 1, x :: y :: zs =>
    let i := Config.pick d k % (zs.length + 2)
    (x :: y :: zs).getD i x :: orderFrom d k ((x :: y :: zs).eraseIdx i)

/-- The list in the order of the `d`-th occasion. -/
def freeOrder {α : Type} (d : Nat) (xs : List α) : List α := orderFrom d xs.length xs

/-- The occasion is used up, unless the list had one order only. -/
def drawn {α : Type} (xs : List α) (s : State) : State :=
  if xs.length ≤ 1 then s else { s with draws := s.draws + 1 }

/-- `f` on each of the records, one after another, in an order that no rule states. -/
def forEachFree {α : Type} (xs : List α) (f : α → State → State) (s : State) : State :=
  (freeOrder s.draws xs).foldl (fun t x => f x t) (drawn xs s)

/-! ## Events (R192) -/

/-- Two detail bytes (R183). -/
def detailOf (hi lo : Nat) : Half := joinBytes (byteOf hi) (byteOf lo)

/-- R192: the queue and the lost count after a post. The newest record is the last. -/
def postInto (q : List EventRecord) (lost : Nat) (e : EventRecord) : List EventRecord × Nat :=
  match q.getLast? with
  | some r =>
    if r.kind = e.kind ∧ r.subject = e.subject ∧ r.detail = e.detail then
      (q.dropLast ++ [{ r with repeats := min 15 (r.repeats + 1) }], lost)
    else if q.length < 48 then (q ++ [e], lost)
    else (q, min 255 (lost + 1))
  | none => ([e], lost)

/-- R192: a block posts an event, stamped with the survey cycle count. -/
def post (k : EventKind) (subject : Nat) (detail : Half) (s : State) : State :=
  let r := postInto s.events s.lost
    { kind := k, subject := byteOf subject, detail := detail, stamp := s.cycleCount, repeats := 1 }
  { s with events := r.1, lost := r.2 }

/-! ## Shared reads -/

/-- The bucket of a key (R3). -/
def bucketOf (node point : Nat) : Fin 16 := ⟨(node + 7 * point) % 16, Nat.mod_lt _ (by decide)⟩

/-- A channel is healthy when it is GOOD or HELD (R18). -/
def Health.isHealthy : Health → Bool
  | .good => true
  | .held => true
  | _ => false

/-- The channels bound to a zone with a kind (R44, R58, R69). -/
def members (s : State) (k : BindingKind) (z : Fin 16) : List (Fin 64) :=
  (List.finRange 64).filter fun i =>
    let b := s.tables.bindings[i]
    b.valid && b.kind == k && b.zone == z

/-- The enabled fans that belong to a group (R103). -/
def enabledFans (ts : Tables) (g : Fin 4) : List (Fin 8) :=
  (List.finRange 8).filter fun f => ts.fans[f].enabled && ts.fans[f].group == g

/-- A group is enabled while an enabled fan belongs to it (R103). -/
def groupEnabled (ts : Tables) (g : Fin 4) : Bool := !(enabledFans ts g).isEmpty

/-- The groups of a zone's mask (R153). -/
def servedGroups (mask : BitVec 4) : List (Fin 4) := (List.finRange 4).filter fun g => mask.getLsbD g.val

/-- A group without an enabled fan and without a context posts no event and is under no output, so its place in an order
shows nowhere (log 4). -/
def quietGroup (s : State) (g : Fin 4) : Bool := !groupEnabled s.tables g && s.groups[g].stack.isEmpty

/-- `f` on each of the groups, in an order that no rule states (log 4). -/
def forEachGroup (gs : List (Fin 4)) (f : Fin 4 → State → State) (s : State) : State :=
  forEachFree (gs.filter fun g => !quietGroup s g) f ((gs.filter fun g => quietGroup s g).foldl (fun t g => f g t) s)

/-- The largest of a list of stages, 0 for none (R80 to R82). -/
def largest (xs : List Nat) : Nat := xs.foldr max 0

end Sys2Proof.Machine
end

