-- ==== Sys2Proof/Machine/Flags.lean ====
section
/-! DEFINITION. The flag computations of the part: the functions of the four contact outputs and their judgement
(chapter 7), and the attention byte (R171). -/

namespace Sys2Proof.Machine

/-- R122: the function of CHARGE_PERMIT. -/
def chargeFunction (s : State) : Bool :=
  s.mode == .run && s.zones.toList.all fun z => !(z.gas == .alert || z.gas == .alarm || z.gas == .fault)

/-- The three results of VENT_PROVEN's function (R123). -/
inductive Proof where
  | unproven | pending | proven
deriving DecidableEq, Repr

/-- R123: a run-set fan is read as proven when it is RUNNING or MANUAL. A STARTING or OFF one awaits proof; a FAILED one
stands in a run set only between parts (b) and (c) of its group step, within one command (log 27). -/
def readsProven (s : State) (f : Fin 8) : Bool := s.fans[f].state == .running || s.fans[f].state == .manual

/-- R123: every run-set fan of every enabled group that calls for air is read as proven. -/
def allProven (s : State) : Bool :=
  (List.finRange 4).all fun g =>
    !(groupEnabled s.tables g && decide (0 < s.groups[g].commanded)) || s.groups[g].runSet.all (readsProven s)

/-- R123: the function of VENT_PROVEN. -/
def ventFunction (s : State) : Proof :=
  if s.mode ≠ .run ∨ (∃ g : Fin 4, s.groups[g].condition = .unavailable) then .unproven
  else if allProven s then .proven
  else .pending

/-- R125: a zone's terms of BEACON. -/
def soundsBeacon (z : ZoneRecord) : Bool :=
  (z.gas == .alarm && !z.alarmAck) || ((z.spill == .wet || z.spill == .latched) && !z.spillAck)

/-- R125: the function of BEACON. -/
def beaconFunction (s : State) : Bool := s.zones.toList.any soundsBeacon

/-- R126: the function of HEALTHY. -/
def healthyFunction (s : State) : Bool :=
  s.mode == .run && (s.zones.toList.all fun z => !(z.gas == .fault) && !z.noSense && !z.spillBlind) &&
    !(s.segment == .faulted || s.segment == .released) && s.storeValid &&
    (s.groups.toList.all fun g => !(g.condition == .degraded || g.condition == .unavailable))

/-- R121: a change toward the alarming direction is taken at once. -/
def judgeAlarm (s : State) : State :=
  { s with
    outputs :=
      { chargePermit := s.outputs.chargePermit && chargeFunction s
        ventProven := s.outputs.ventProven && decide (ventFunction s ≠ .unproven)
        beacon := s.outputs.beacon || beaconFunction s
        healthy := s.outputs.healthy && healthyFunction s } }

/-- R120, R124: VENT_PROVEN's level at a finish; pending keeps it. -/
def ventLevel (s : State) : Bool :=
  match ventFunction s with
  | .unproven => false
  | .pending => s.outputs.ventProven
  | .proven => true

/-- R121: at the finish of an event that bears on every output, each is judged against the state the event has left. -/
def judgeAll (s : State) : State :=
  { s with
    outputs :=
      { chargePermit := chargeFunction s, ventProven := ventLevel s, beacon := beaconFunction s,
        healthy := healthyFunction s } }

/-- R121, R125: the finish of an ACKNOWLEDGE, whose inputs are BEACON's. -/
def judgeBeacon (s : State) : State := { s with outputs := { s.outputs with beacon := beaconFunction s } }

/-- R121: the finish of an event whose inputs are those of VENT_PROVEN: a push or a pop. -/
def judgeVent (s : State) : State := { s with outputs := { s.outputs with ventProven := ventLevel s } }

/-- R121: the finish of an event whose inputs are those of VENT_PROVEN and HEALTHY: a group step, a FAN-RESET. -/
def judgeFans (s : State) : State :=
  { s with outputs := { s.outputs with ventProven := ventLevel s, healthy := healthyFunction s } }

/-- R121: the finish of a change of segment state or of the store-valid flag, inputs of HEALTHY. -/
def judgeHealthy (s : State) : State := { s with outputs := { s.outputs with healthy := healthyFunction s } }

/-- R171: the attention byte. -/
def attention (s : State) : Byte :=
  byteOf ((beaconFunction s).toNat + 2 * (decide (s.events ≠ [])).toNat + 4 * (decide (40 ≤ s.events.length)).toNat +
    8 * (decide (s.changes ≠ [])).toNat + 16 * s.hold.toNat + 32 * s.mode.code)

end Sys2Proof.Machine
end

