-- ==== Sys2Proof/Machine/Channels.lean ====
section
/-! DEFINITION. The channel conditioner (chapter 2) and the lookup of a READING's points (1.3). -/

namespace Sys2Proof.Machine

/-! ## From raw code to scale units (2.2) -/

/-- R19: stage 1, the scaled product divided by 256 with floor rounding. -/
def conditionRaw (b : Binding) (raw : Nat) : Int := (((raw : Int) - b.zeroOffset) * b.span) / 256

/-- What stage 2 leaves of a conditioned value (R20). -/
structure Limited where
  value : Nat
  lowClamp : Bool
  overrange : Bool
deriving DecidableEq, Repr

/-- R20: stage 2; nothing for an underrange sample. -/
def limit (c : Int) : Option Limited :=
  if c < -50 then none
  else if c < 0 then some { value := 0, lowClamp := true, overrange := false }
  else if c ≤ 1000 then some { value := c.toNat, lowClamp := false, overrange := false }
  else some { value := 1000, lowClamp := false, overrange := true }

/-- R21: the step of stage 3, truncated toward zero, at least one su while the difference is not 0. -/
def smoothStep (d : Int) (k : Nat) : Int :=
  let q := d.tdiv (2 ^ k)
  if q = 0 then (if 0 < d then 1 else if d < 0 then -1 else 0) else q

/-- R21: the filtered value moved toward the stored C. -/
def smooth (f c k : Nat) : Nat := ((f : Int) + smoothStep ((c : Int) - f) k).toNat

/-- R22: the closure of a CONTACT sample. -/
def closureOf (raw : Nat) : Contact := if 2048 ≤ raw then .closed else .opened

/-! ## Taking a sample (2.3) -/

/-- R25 to R28: the health after a usable sample, with what is left of the settle count `n`. A HELD channel becomes GOOD (R28,
R34), one whose age has reached a lowered stale limit too, though R31 has that one stay HELD (DESIGN CHOICE, log 44). -/
def usableHealth (n : Nat) (c : ChannelRecord) (warm : Bool) : Health × Nat :=
  if warm then (.settling, n)
  else
    match c.health with
    | .good => (.good, c.settleLeft)
    | .held => (.good, c.settleLeft)
    | .settling => if c.settleLeft ≤ 1 then (.good, 0) else (.settling, c.settleLeft - 1)
    | _ => if n ≤ 1 then (.good, 0) else (.settling, n - 1)

/-- R25 to R28: a usable sample smooths a GOOD or HELD channel and seeds any other. -/
def seeds (c : ChannelRecord) (warm : Bool) : Bool := warm || !c.health.isHealthy

/-- R23 to R28: a channel record after one sample, for a channel that is not DISABLED. -/
def sampleRecord (b : Binding) (n : Nat) (c : ChannelRecord) (raw : Nat) (warm fault : Bool) : ChannelRecord :=
  let failedMark : Mark := if c.mark = .usable then .usable else .unusable
  if fault then { c with raw := raw, mark := failedMark, health := .nodeFault }
  else if b.kind = .contact then
    let h := usableHealth n c warm
    { c with raw := raw, mark := .usable, age := 0, contact := closureOf raw, health := h.1, settleLeft := h.2 }
  else
    match limit (conditionRaw b raw) with
    | none => { c with raw := raw, mark := failedMark, health := .underrange }
    | some l =>
      let h := usableHealth n c warm
      { c with raw := raw, mark := .usable, age := 0, conditioned := l.value, lowClamp := l.lowClamp,
               overrange := l.overrange, filtered := if seeds c warm then l.value else smooth c.filtered l.value b.shift,
               health := h.1, settleLeft := h.2 }

/-- R35: a change of health is posted, but one between GOOD and HELD. -/
def healthPosts (old new : Health) : Bool := old != new && !(old.isHealthy && new.isHealthy)

/-- R35: posts CHANNEL_HEALTH when the change is one that is posted. -/
def postHealth (i : Fin 64) (old new : Health) (s : State) : State :=
  if healthPosts old new then post .channelHealth i.val (detailOf new.code old.code) s else s

/-- R17: the ZONES entry that governs a channel is its binding's, as it stands. -/
def channelZone (s : State) (i : Fin 64) : ZoneEntry := s.tables.zones[s.tables.bindings[i].zone]

/-- R23: a channel takes a sample. A DISABLED channel receives none. -/
def takeSample (i : Fin 64) (raw : Nat) (warm fault : Bool) (s : State) : State :=
  let c := s.channels[i]
  if c.health = .disabled then s
  else
    let c' := sampleRecord s.tables.bindings[i] (channelZone s i).settleCount c raw warm fault
    postHealth i c.health c'.health (setChannel i c' s)

/-! ## Looking up a point (1.3) -/

/-- R6: the walk of the key's bucket chain from its head. -/
def lookup (s : State) (node point : Nat) : Option (Fin 64) :=
  s.chains[bucketOf node point].find? fun i =>
    s.tables.bindings[i].node == node && s.tables.bindings[i].point.val == point

/-- R6, R7: one point record of a READING from `node`; one that no slot binds is ignored. -/
def takePoint (node : Nat) (status : Byte) (s : State) (p : PointRecord) : State :=
  match lookup s node p.point with
  | some i => takeSample i p.raw (p.warm || status.getLsbD 0) (p.fault || status.getLsbD 1) s
  | none => s

/-- R6, R8: the point records of a READING, in payload order. -/
def readingArrival (node : Nat) (payload : List Byte) (s : State) : State :=
  (((readingPoints payload).getD []).foldl (takePoint node (payload.getD 0 0))) s

/-! ## Settling marks and notices (2.4) -/

/-- R29: a settling mark on a channel record whose zone's settle count is `n`. -/
def settleRecord (n : Nat) (c : ChannelRecord) : ChannelRecord :=
  match c.health with
  | .good => { c with health := .settling, settleLeft := n }
  | .held => { c with health := .settling, settleLeft := n }
  | .settling => { c with settleLeft := n }
  | _ => c

/-- R29: a settling mark from a CONFIG reply, with its event (R35). -/
def markSettling (i : Fin 64) (s : State) : State :=
  let c := s.channels[i]
  let c' := settleRecord (channelZone s i).settleCount c
  postHealth i c.health c'.health (setChannel i c' s)

/-- R29: a CONFIG entry that completes REPLY marks every channel whose valid binding names its destination. -/
def markNode (node : Nat) (s : State) : State :=
  forEachFree ((List.finRange 64).filter fun i => s.tables.bindings[i].valid && s.tables.bindings[i].node == node)
    markSettling s

/-- R29, R30: the notices the binding table hands on (R16); they post no event (R35). -/
inductive Notice where
  | fresh | gone | resettle | silent
deriving DecidableEq, Repr

/-- R29, R30: what a notice does to the channel record. -/
def takeNotice (n : Notice) (i : Fin 64) (s : State) : State :=
  match n with
  | .fresh => setChannel i (ChannelRecord.restarted .unseen) s
  | .gone => setChannel i (ChannelRecord.restarted .disabled) s
  | .resettle => setChannel i (settleRecord (channelZone s i).settleCount s.channels[i]) s
  | .silent => s

/-! ## Aging (2.5) and resets (2.6) -/

/-- R33: the health of a channel that was not heard, its age now `age` and its zone's stale limit `l`. -/
def unheardHealth (l age : Nat) (h : Health) : Health :=
  if l ≤ age then .stale else if h = .good then .held else h

/-- R32: the aging of a channel record whose zone's stale limit is `l`. A channel that was HELD at or above a lowered stale
limit and took a faulted or underrange sample in the cycle keeps its fault state (R24, R32), though R31 has it become STALE for
want of a usable sample (DESIGN CHOICE, log 44). -/
def ageRecord (l : Nat) (c : ChannelRecord) : ChannelRecord :=
  if c.health = .disabled then c
  else
    let older := min 15 (c.age + 1)
    match c.mark with
    | .usable => { c with mark := .none }
    | .unusable => { c with mark := .none, age := older }
    | .none =>
      { c with age := older, health := if c.health = .stale then .stale else unheardHealth l older c.health }

/-- R32: aging at a survey completion: every record, then the events of the changes. -/
def ageChannels (s : State) : State :=
  let aged : Vector ChannelRecord 64 := Vector.ofFn fun i => ageRecord (channelZone s i).staleLimit s.channels[i]
  forEachFree ((List.finRange 64).filter fun i => healthPosts s.channels[i].health aged[i].health)
    (fun i => postHealth i s.channels[i].health aged[i].health) { s with channels := aged }

/-- R36, R37: every channel record at its reset value, judged against the BINDINGS table. -/
def restartedChannels (ts : Tables) : Vector ChannelRecord 64 :=
  Vector.ofFn fun i => ChannelRecord.restarted (if ts.bindings[i].valid then .unseen else .disabled)

end Sys2Proof.Machine
end

