-- ==== Sys2Proof/Machine/Fans.lean ====
section
/-! DEFINITION. The fan supervisor (chapter 6): run sets and group conditions, setpoints, proof, hand-over and take-back. -/

namespace Sys2Proof.Machine

/-! ## Fan states and setpoints -/

/-- R115: a fan record replaced; a change of its state posts FAN_STATE. -/
def changeFan (f : Fin 8) (r : FanRecord) (s : State) : State :=
  let old := s.fans[f].state
  let t := setFan f r s
  if r.state = old then t
  else post .fanState f.val (detailOf (r.state.code + 16 * old.code) r.reason.code) t

/-- R108: the speed table's entry for a stage 1..4, and 0 for stage 0. -/
def speedAt (e : GroupEntry) (stage : Nat) : Nat :=
  match stage with
  | 0 => 0
  | n + 1 => e.speed.toList.getD n 0

/-- The group a fan belongs to (R103). -/
def fanGroup (s : State) (f : Fin 8) : Fin 4 := s.tables.fans[f].group

/-- R108: the setpoint of a fan that runs at its group's commanded stage. -/
def runningSetpoint (s : State) (f : Fin 8) : Nat :=
  speedAt s.tables.groups[fanGroup s f] s.groups[fanGroup s f].commanded

/-- R110: a fan enters STARTING; one without an airflow slot becomes RUNNING in the same event. R115 gives the one FAN_STATE
of such a fan that was OFF; one taken back from MANUAL posts one too, from MANUAL to RUNNING (DESIGN CHOICE, log 41). -/
def startFan (f : Fin 8) (s : State) : State :=
  let r := s.fans[f]
  let started : FanRecord :=
    match s.tables.fans[f].airflowSlot with
    | some _ => { r with state := .starting, timer := s.tables.groups[fanGroup s f].proofTimeout }
    | none => { r with state := .running, timer := 0 }
  changeFan f { started with streak := 0, setpoint := runningSetpoint s f, fresh := true } s

/-- R106: a fan goes OFF, its proof timer, low-flow streak and setpoint 0. -/
def stopFan (f : Fin 8) (s : State) : State :=
  changeFan f { s.fans[f] with state := .off, timer := 0, streak := 0, setpoint := 0 } s

/-- R112: a fan enters FAILED with a reason. -/
def failFan (why : Reason) (f : Fin 8) (s : State) : State :=
  changeFan f { s.fans[f] with state := .failed, timer := 0, streak := 0, setpoint := 0, reason := why } s

/-- R114: a fan enters MANUAL at a hand-over; its failure reason is kept. -/
def manualFan (f : Fin 8) (s : State) : State :=
  changeFan f { s.fans[f] with state := .manual, timer := 0, streak := 0, setpoint := 0 } s

/-- A fan runs when it is STARTING or RUNNING. -/
def FanState.active : FanState → Bool
  | .starting => true
  | .running => true
  | _ => false

/-! ## Run sets and conditions (6.2) -/

/-- R105: the fans of a group that are enabled and not failed, in ascending order field, then fan number. -/
def eligibleFans (ts : Tables) (fans : Vector FanRecord 8) (g : Fin 4) : List (Fin 8) :=
  (List.finRange 4).flatMap fun o =>
    (enabledFans ts g).filter fun f => ts.fans[f].order == o && fans[f].reason == .none

/-- R105: the first N of them, N the group's run count. -/
def selectRunSet (ts : Tables) (fans : Vector FanRecord 8) (g : Fin 4) : List (Fin 8) :=
  (eligibleFans ts fans g).take ts.groups[g].runCount

/-- R107: the condition a group's run set of `n` fans gives it. -/
def conditionOf (ts : Tables) (g : Fin 4) (n : Nat) : Condition :=
  if !groupEnabled ts g then .disabled
  else if n = 0 then .unavailable
  else if n < ts.groups[g].runCount then .degraded
  else .full

/-- R106: a fan whose membership of group `g`'s run set has changed; `joins` says which way. -/
def actOnMember (g : Fin 4) (joins : Bool) (f : Fin 8) (s : State) : State :=
  let st := s.fans[f].state
  if joins then
    if st = .off ∧ !s.groups[g].handOver ∧ 0 < s.groups[g].commanded then startFan f s else s
  else if st.active then stopFan f s
  else s

/-- R107: the group's condition follows its run set; a change posts GROUP_CONDITION and is judged at once (R121). -/
def changeCondition (g : Fin 4) (s : State) : State :=
  let r := s.groups[g]
  let c := conditionOf s.tables g r.runSet.length
  if c = r.condition then s
  else
    judgeAlarm
      (post .groupCondition g.val (detailOf (c.code + 16 * r.condition.code) r.runSet.length)
        (setGroup g { r with condition := c } s))

/-- R106, R107: the run set and the condition of a group recomputed. -/
def recomputeRunSet (g : Fin 4) (s : State) : State :=
  let old := s.groups[g].runSet
  let new := selectRunSet s.tables s.fans g
  let moved := (List.finRange 8).filter fun f => old.contains f != new.contains f
  changeCondition g
    (forEachFree moved (fun f => actOnMember g (new.contains f) f) (setGroup g { s.groups[g] with runSet := new } s))

/-- R117: every group's run set and condition computed from tables and fan records, without events. -/
def computedRunSets (ts : Tables) (fans : Vector FanRecord 8) (gs : Vector GroupRecord 4) : Vector GroupRecord 4 :=
  Vector.ofFn fun g =>
    { gs[g] with runSet := selectRunSet ts fans g, condition := conditionOf ts g (selectRunSet ts fans g).length }

/-! ## Supervision at the group step (6.4) -/

/-- R110, R111: the airflow channel of a slot is healthy and at or above the proof level. -/
def showsFlow (s : State) (slot : Fin 64) (level : Nat) : Bool :=
  s.channels[slot].health.isHealthy && decide (level ≤ s.channels[slot].filtered)

/-- R109 (b): whether the fan is judged: it is STARTING or RUNNING, did not enter STARTING in this group step, and has an airflow
slot; with what its channel shows. -/
def judgedFlow (s : State) (f : Fin 8) : Option Bool :=
  if s.fans[f].state.active && !s.fans[f].fresh then
    (s.tables.fans[f].airflowSlot).map fun slot => showsFlow s slot s.tables.fans[f].proofLevel
  else none

/-- R110: the judgement to come finds a STARTING fan without flow whose proof timer counts to 0. -/
def proofRunsOut (s : State) (f : Fin 8) : Bool :=
  s.fans[f].state == .starting && judgedFlow s f == some false && decide (s.fans[f].timer ≤ 1)

/-- R110, R111: one judgement. -/
def judgeFan (f : Fin 8) (s : State) : State :=
  let r := s.fans[f]
  match judgedFlow s f with
  | none => s
  | some true =>
    if r.state = .starting then changeFan f { r with state := .running, timer := 0, streak := 0 } s
    else setFan f { r with streak := 0 } s
  | some false =>
    if proofRunsOut s f then failFan .noProof f s
    else if r.state = .starting then setFan f { r with timer := r.timer - 1 } s
    else if 3 ≤ r.streak + 1 then failFan .lostFlow f s
    else setFan f { r with streak := r.streak + 1 } s

/-- The fans that belong to a group, enabled or not (R103). -/
def fansOf (s : State) (g : Fin 4) : List (Fin 8) := (List.finRange 8).filter fun f => s.tables.fans[f].group == g

/-- R109 (a): starts and stops. -/
def startsAndStops (g : Fin 4) (s : State) : State :=
  if s.groups[g].commanded = 0 then forEachFree ((fansOf s g).filter fun f => s.fans[f].state.active) stopFan s
  else forEachFree (s.groups[g].runSet.filter fun f => s.fans[f].state == .off) startFan s

/-- R109 (b): the fans of a group that are judged in this group step. -/
def judgedFans (s : State) (g : Fin 4) : List (Fin 8) := (fansOf s g).filter fun f => (judgedFlow s f).isSome

/-- R109 (b): the judgements of a group's fans, an output following each toward its alarming direction (R121). -/
def judgeGroup (g : Fin 4) (s : State) : State := forEachFree (judgedFans s g) (fun f t => judgeAlarm (judgeFan f t)) s

/-- R109 (c): the run set is recomputed once when a fan of it entered FAILED in part (b), and so has a failure reason. -/
def failOver (g : Fin 4) (s : State) : State :=
  if s.groups[g].runSet.any fun f => s.fans[f].reason != .none then recomputeRunSet g s else s

/-- R109 (b) and (c), R112: the group's fans judged and, in the same step, failed over, so that no command finds a FAILED
fan in a run set (R105, log 27). -/
def superviseGroup (g : Fin 4) (s : State) : State := failOver g (judgeGroup g s)

/-- R108, R109 (d): the setpoint of one STARTING or RUNNING fan of the group. -/
def writeSetpoint (g : Fin 4) (s : State) (f : Fin 8) : State :=
  if s.tables.fans[f].group = g ∧ s.fans[f].state.active then
    setFan f { s.fans[f] with setpoint := runningSetpoint s f } s
  else s

/-- R109 (d): the setpoints of the group's STARTING and RUNNING fans. -/
def writeSetpoints (g : Fin 4) (s : State) : State := (List.finRange 8).foldl (writeSetpoint g) s

/-- R86, R109: as a group step begins, no fan of the group has entered STARTING in it. -/
def ageStart (g : Fin 4) (s : State) (f : Fin 8) : State :=
  if s.tables.fans[f].group = g then setFan f { s.fans[f] with fresh := false } s else s

def beginGroupStep (g : Fin 4) (s : State) : State := (List.finRange 8).foldl (ageStart g) s

/-! ## Hand-over and take-back (6.6) -/

/-- R114: a MANUAL fan taken back. -/
def takeBackFan (g : Fin 4) (f : Fin 8) (s : State) : State :=
  if s.fans[f].reason ≠ .none then
    changeFan f { s.fans[f] with state := .failed, timer := 0, streak := 0, setpoint := 0 } s
  else if f ∈ s.groups[g].runSet ∧ 0 < s.groups[g].commanded then startFan f s
  else stopFan f s

/-- R114: the hand-over flag is set, and every enabled fan of the group enters MANUAL. -/
def handOverGroup (g : Fin 4) (s : State) : State :=
  forEachFree ((enabledFans s.tables g).filter fun f => s.fans[f].state != .manual) manualFan
    (setGroup g { s.groups[g] with handOver := true } s)

/-- R95, R114: the hand-over flag clears, and every MANUAL fan of the group is taken back. -/
def takeBackGroup (g : Fin 4) (s : State) : State :=
  forEachFree ((fansOf s g).filter fun f => s.fans[f].state == .manual) (takeBackFan g)
    (setGroup g { s.groups[g] with handOver := false } s)

end Sys2Proof.Machine
end

