-- ==== Sys2Proof/Machine/Groups.lean ====
section
/-! DEFINITION. The ventilation sequencer (chapter 5): demand, safety floor, effective and commanded stage, the override
stack and the hand-over. -/

namespace Sys2Proof.Machine

/-! ## What the zones ask for (5.2, 5.3) -/

/-- R80: the conditions a zone shows: the stage each names in the map, and whether it belongs to the floor set. -/
def shownConditions (m : StageMap) (z : ZoneRecord) : List (Nat × Bool) :=
  (if z.gas = .watch then [(m.watch, false)] else []) ++ (if z.gas = .alert then [(m.alert, false)] else []) ++
    (if z.gas = .alarm then [(m.alarm, true)] else []) ++ (if z.gas = .fault then [(m.fault, true)] else []) ++
    (if z.rising then [(m.rising, false)] else []) ++
    (if z.spill = .wet ∨ z.spill = .latched then [(m.spill, true)] else []) ++
    (if z.purge then [(m.purge, true)] else []) ++ (if z.equalize then [(m.equalize, false)] else []) ++
    (if z.spillBlind || z.noSense then [(m.fault, true)] else [])

/-- R80: a zone's contribution to a group with stage map `m`. -/
def contribution (m : StageMap) (z : ZoneRecord) : Nat := largest ((shownConditions m z).map (·.1))

/-- R80: a zone's floor contribution. -/
def floorContribution (m : StageMap) (z : ZoneRecord) : Nat :=
  largest (((shownConditions m z).filter (·.2)).map (·.1))

/-- R78: a group's member zones are the enabled zones whose mask includes it. -/
def memberZones (s : State) (g : Fin 4) : List (Fin 16) :=
  (List.finRange 16).filter fun z => s.tables.zones[z].enabled && s.tables.zones[z].groupMask.getLsbD g.val

/-- R81: a group's demand. -/
def demandOf (s : State) (g : Fin 4) : Nat :=
  let m := s.tables.groups[g].stageMap
  match s.mode with
  | .standby => 0
  | .warmup => max (max m.base m.warmup) (largest ((memberZones s g).map fun z => contribution m s.zones[z]))
  | .run => max m.base (largest ((memberZones s g).map fun z => contribution m s.zones[z]))

/-- R82: a group's safety floor. -/
def floorOf (s : State) (g : Fin 4) : Nat :=
  match s.mode with
  | .standby => 0
  | _ => largest ((memberZones s g).map fun z => floorContribution s.tables.groups[g].stageMap s.zones[z])

/-- R84: the effective stage, from the top of the stack, the demand and the floor. -/
def effectiveOf (mode : Mode) (r : GroupRecord) : Nat :=
  if mode = .standby then 0
  else
    match r.stack with
    | [] => r.demand
    | c :: _ => if c.kind = .manual then r.floor else max c.stage r.floor

/-! ## Hand-over (5.7) -/

/-- R93: the hand-over is due: WARMUP or RUN, MANUAL on top, a floor of 0. -/
def handOverDue (mode : Mode) (r : GroupRecord) : Bool :=
  mode != .standby && (match r.stack with | [] => false | c :: _ => c.kind == .manual) && r.floor == 0

/-- R93: the hand-over of a group judged again. -/
def judgeHandOver (g : Fin 4) (s : State) : State :=
  let r := s.groups[g]
  if handOverDue s.mode r = r.handOver then s
  else if r.handOver then takeBackGroup g s
  else handOverGroup g s

/-! ## Recomputation (R83, R85) -/

/-- R85: the floor rule on a group record whose floor has been recomputed in WARMUP or RUN. -/
def floorRule (mode : Mode) (r : GroupRecord) : GroupRecord :=
  if mode ≠ .standby ∧ r.commanded < r.floor then { r with commanded := r.floor, runOn := 0 } else r

/-- R83 to R85: the group record with demand, floor and effective stage recomputed and the floor rule applied. -/
def restaged (s : State) (g : Fin 4) : GroupRecord :=
  let r := { s.groups[g] with demand := demandOf s g, floor := floorOf s g }
  floorRule s.mode { r with effective := effectiveOf s.mode r }

/-- R83, R85, R93: a group's stages recomputed, the floor rule applied, and the hand-over judged. -/
def restage (g : Fin 4) (s : State) : State := judgeHandOver g (setGroup g (restaged s g) s)

/-- R90 to R92: the stack of a group has changed: its effective stage is recomputed and its hand-over judged, at once. -/
def changeStack (g : Fin 4) (stack : List Context) (s : State) : State :=
  let r := { s.groups[g] with stack := stack }
  judgeHandOver g (setGroup g { r with effective := effectiveOf s.mode r } s)

/-! ## The group step (5.5, 5.6) -/

/-- R92: the top context's count stands one group step before its end. -/
def expiryEnds (r : GroupRecord) : Bool :=
  match r.stack with
  | c :: _ => c.expiry == 1
  | [] => false

/-- R92: the top context counts its expiry, which does not come to 0. -/
def countExpiry (g : Fin 4) (s : State) : State :=
  let r := s.groups[g]
  match r.stack with
  | c :: cs => if 2 ≤ c.expiry then setGroup g { r with stack := { c with expiry := c.expiry - 1 } :: cs } s else s
  | [] => s

/-- R92: the top context expires. OVERRIDE_EXPIRED is posted before the FAN_STATE events of the hand-over or take-back that
the expiry causes (DESIGN CHOICE, log 13). -/
def expireTop (g : Fin 4) (s : State) : State :=
  match s.groups[g].stack with
  | c :: cs => judgeAlarm (changeStack g cs (post .overrideExpired g.val c.tag s))
  | [] => s

/-- R87: the stage update of a group record whose run-on setting is `n`. -/
def stepStage (n : Nat) (r : GroupRecord) : GroupRecord :=
  if r.commanded < r.effective then { r with commanded := r.commanded + 1, runOn := 0 }
  else if r.effective = r.commanded then { r with runOn := 0 }
  else if n ≤ r.runOn + 1 then { r with commanded := r.commanded - 1, runOn := 0 }
  else { r with runOn := r.runOn + 1 }

/-- R87: the stage update of a group. -/
def updateStage (g : Fin 4) (s : State) : State := setGroup g (stepStage s.tables.groups[g].runOn s.groups[g]) s

end Sys2Proof.Machine
end

