-- ==== Sys2Proof/Machine/Zones.lean ====
section
/-! DEFINITION. The zone evaluator (chapter 3) and the spill supervisor (chapter 4): one zone's evaluation, step by step. -/

namespace Sys2Proof.Machine

/-! ## The gas quantities and the state decision (3.2 to 3.4) -/

/-- R44: the quantities of one evaluation: the filtered values of the healthy HYDROGEN members, how many members are
SETTLING or UNSEEN, and how many there are. -/
structure GasInputs where
  values : List Nat
  settling : Nat
  bound : Nat
deriving DecidableEq, Repr

/-- R44: the HYDROGEN quantities of a zone. -/
def gasInputs (s : State) (z : Fin 16) : GasInputs :=
  let ms := members s .hydrogen z
  { values := (ms.filter fun i => s.channels[i].health.isHealthy).map fun i => s.channels[i].filtered
    settling := (ms.filter fun i => s.channels[i].health == .settling || s.channels[i].health == .unseen).length
    bound := ms.length }

/-- R44: count(x), the healthy members with F at or above x. -/
def countAt (vs : List Nat) (x : Nat) : Nat := (vs.filter fun v => decide (x ≤ v)).length

/-- The rank of a gas state (R42); FAULT and INACTIVE are not ranked. -/
def Gas.rank : Gas → Nat
  | .watch => 1 | .alert => 2 | .alarm => 3 | _ => 0

/-- R46: the up-target. -/
def upTarget (e : ZoneEntry) (vs : List Nat) : Gas :=
  if min e.vote vs.length ≤ countAt vs e.alarm then .alarm
  else if e.alert ≤ largest vs then .alert
  else if e.watch ≤ largest vs then .watch
  else .normal

/-- R47: the keep condition of a state above NORMAL. -/
def keeps (e : ZoneEntry) (vs : List Nat) : Gas → Bool
  | .watch => decide (e.watch - e.hysteresis ≤ largest vs)
  | .alert => decide (e.alert - e.hysteresis ≤ largest vs)
  | .alarm => decide (min e.vote vs.length ≤ countAt vs (e.alarm - e.hysteresis))
  | _ => false

/-- R48: the highest of ALERT and WATCH below the present state whose keep condition holds, else NORMAL. -/
def fallFrom (e : ZoneEntry) (vs : List Nat) (g : Gas) : Gas :=
  if 2 < g.rank ∧ keeps e vs .alert then .alert
  else if 1 < g.rank ∧ keeps e vs .watch then .watch
  else .normal

/-- R49: the latch holds the zone in ALARM. -/
def latched (e : ZoneEntry) (r : ZoneRecord) : Bool := r.gas == .alarm && e.latch && !r.alarmAck

/-- R48, R49: the new gas state with at least one healthy member. An INACTIVE zone is never evaluated in WARMUP or RUN
(R42); it would move to the up-target as a FAULT zone does (log 29). -/
def gasWithSense (e : ZoneEntry) (r : ZoneRecord) (vs : List Nat) : Gas :=
  let t := upTarget e vs
  if r.gas = .fault ∨ r.gas = .inactive then t
  else if r.gas.rank < t.rank then t
  else if t = r.gas then t
  else if latched e r then .alarm
  else if keeps e vs r.gas then r.gas
  else fallFrom e vs r.gas

/-- What the decision without healthy members gives (R50). -/
structure BlindDecision where
  gas : Gas
  reading : Nat
  noSense : Bool
deriving DecidableEq, Repr

/-- R50: the six cases without a healthy member, the first that applies. -/
def gasWithoutSense (mode : Mode) (e : ZoneEntry) (r : ZoneRecord) (q : GasInputs) : BlindDecision :=
  if q.bound = 0 ∧ latched e r then { gas := .alarm, reading := r.reading, noSense := true }
  else if q.bound = 0 then { gas := .normal, reading := 0, noSense := false }
  else if mode = .warmup then { gas := r.gas, reading := r.reading, noSense := r.noSense }
  else if q.settling = q.bound then { gas := r.gas, reading := r.reading, noSense := r.noSense }
  else if latched e r then { gas := .alarm, reading := r.reading, noSense := true }
  else { gas := .fault, reading := r.reading, noSense := false }

/-- R49, R52: the record with its new gas state: ALARM_ACK is cleared at every entry into ALARM and on leaving it, and
entry into FAULT empties the ring. -/
def enterGas (g : Gas) (r : ZoneRecord) : ZoneRecord :=
  { r with
    gas := g
    alarmAck := r.alarmAck && (r.gas == .alarm) && (g == .alarm)
    ring := if g = .fault ∧ r.gas ≠ .fault then [] else r.ring }

/-- Steps 1 and 2 of an evaluation (R43): the quantities and the new gas state. -/
def decideGas (mode : Mode) (e : ZoneEntry) (r : ZoneRecord) (q : GasInputs) : ZoneRecord :=
  let h := q.values.length
  let r1 := { r with healthy := h, settling := q.settling, bound := q.bound, effectiveVote := min e.vote h,
                     alarmVotes := countAt q.values e.alarm }
  if h = 0 then
    let d := gasWithoutSense mode e r q
    { enterGas d.gas r1 with reading := d.reading, noSense := d.noSense }
  else { enterGas (gasWithSense e r q.values) r1 with reading := largest q.values, noSense := false }

/-! ## Rate of rise (3.6) -/

/-- R55: a reading pushed; a full ring drops its oldest entry first. -/
def pushRing (ring : List Nat) (r : Nat) : List Nat := (if ring.length < 8 then ring else ring.drop 1) ++ [r]

/-- R56: the newest entry minus the entry `w` positions older; none while the ring holds `w` entries or fewer. -/
def rateOf (ring : List Nat) (w : Nat) : Option Int :=
  if ring.length ≤ w then none
  else some ((ring.reverse.getD 0 0 : Int) - (ring.reverse.getD w 0 : Int))

/-- R57: RISING after step 3, the gas state and the ring as the evaluation leaves them. -/
def risingOf (e : ZoneEntry) (r : ZoneRecord) : Bool :=
  if r.gas = .alert ∨ r.gas = .alarm ∨ r.gas = .fault then false
  else if r.healthy = 0 then r.rising
  else
    match rateOf r.ring e.rateWindow with
    | none => false
    | some rate =>
      if (e.rateThreshold : Int) ≤ rate then true
      else if rate < ((e.rateThreshold / 2 : Nat) : Int) then false
      else r.rising

/-- Step 3 of an evaluation: the history ring and RISING (R55 to R57). -/
def decideRising (e : ZoneEntry) (r : ZoneRecord) : ZoneRecord :=
  let r1 := { r with ring := if r.healthy = 0 then r.ring else pushRing r.ring r.reading }
  { r1 with rising := risingOf e r1 }

/-! ## Contact flags (3.7) -/

/-- R58: some healthy CONTACT member with the role is closed. -/
def contactClosed (s : State) (z : Fin 16) (role : Role) : Bool :=
  (members s .contact z).any fun i =>
    s.tables.bindings[i].role == role && s.channels[i].health.isHealthy && s.channels[i].contact == .closed

/-! ## The spill step (4.2, 4.3) -/

/-- What the spill step reads of the zone's LEAK members (R69, R70): how many there are, how many healthy, and the two
decisions. -/
structure SpillInputs where
  bound : Nat
  healthy : Nat
  wet : Bool
  allDry : Bool
deriving DecidableEq, Repr

/-- R69: the wet and all-dry decisions; the dry threshold is signed. -/
def spillInputs (s : State) (z : Fin 16) : SpillInputs :=
  let ms := members s .leak z
  let hs := ms.filter fun i => s.channels[i].health.isHealthy
  { bound := ms.length
    healthy := hs.length
    wet := hs.any fun i => decide (s.tables.bindings[i].wetLevel ≤ s.channels[i].filtered)
    allDry := !hs.isEmpty && hs.all fun i =>
      decide ((s.channels[i].filtered : Int) <
        (s.tables.bindings[i].wetLevel : Int) - (s.tables.zones[z].spillHysteresis : Int)) }

/-- R71: the transitions with at least one healthy LEAK member; R72 takes them with `wet` false and `allDry` true. -/
def spillTransition (wet allDry : Bool) (st : Spill) (ack : Bool) : Spill × Bool :=
  match st with
  | .dry => if wet then (.wet, false) else (.dry, ack)
  | .wet => if wet then (.wet, ack) else if allDry then (if ack then (.dry, false) else (.latched, ack)) else (.wet, ack)
  | .latched => if wet then (.wet, false) else if ack then (.dry, false) else (.latched, ack)

/-- Step 5 of an evaluation: the spill fields (R70 to R72). -/
def decideSpill (q : SpillInputs) (r : ZoneRecord) : ZoneRecord :=
  if q.bound = 0 then
    let t := spillTransition false true r.spill r.spillAck
    { r with spill := t.1, spillAck := t.2, spillBlind := false }
  else if q.healthy = 0 then { r with spillBlind := true }
  else
    let t := spillTransition q.wet q.allDry r.spill r.spillAck
    { r with spill := t.1, spillAck := t.2, spillBlind := false }

/-! ## Writing a zone record -/

/-- R83: the parts of a zone record that demand and floor are formed from. -/
def stagingInputs (r : ZoneRecord) : Gas × Bool × Bool × Bool × Bool × Spill × Bool :=
  (r.gas, r.rising, r.purge, r.equalize, r.noSense, r.spill, r.spillBlind)

/-- R59: a change of gas state or NO_SENSE posts ZONE_STATE. -/
def postZoneState (z : Fin 16) (old new : ZoneRecord) (s : State) : State :=
  if old.gas = new.gas ∧ old.noSense = new.noSense then s
  else post .zoneState z.val (detailOf new.gas.code (old.gas.code + 16 * new.noSense.toNat)) s

/-- R60: a change of RISING posts RISING with the zone's reading. -/
def postRising (z : Fin 16) (old new : ZoneRecord) (s : State) : State :=
  if old.rising = new.rising then s
  else post .rising z.val (detailOf (128 * new.rising.toNat + new.reading / 256) new.reading) s

/-- R74: a change of spill state or SPILL_BLIND posts SPILL_STATE. -/
def postSpill (z : Fin 16) (old new : ZoneRecord) (s : State) : State :=
  if old.spill = new.spill ∧ old.spillBlind = new.spillBlind then s
  else post .spillState z.val (detailOf new.spill.code (old.spill.code + 16 * new.spillBlind.toNat)) s

/-- A zone record replaced, with the events of the change in the order gas, RISING, spill. -/
def replaceZone (z : Fin 16) (new : ZoneRecord) (s : State) : State :=
  let old := s.zones[z]
  postSpill z old new (postRising z old new (postZoneState z old new (setZone z new s)))

/-- R61, R77, R83, R121: a part of a zone's evaluation has its new record: its events, then the groups the zone serves
when an input of theirs has changed, then the outputs toward the alarming direction. -/
def writeZone (z : Fin 16) (new : ZoneRecord) (s : State) : State :=
  let t := replaceZone z new s
  judgeAlarm
    (if stagingInputs s.zones[z] = stagingInputs new then t
     else forEachGroup (servedGroups s.tables.zones[z].groupMask) restage t)

/-- R43: steps 1 and 2 of a zone's evaluation. -/
def evaluateGas (z : Fin 16) (s : State) : State :=
  writeZone z (decideGas s.mode s.tables.zones[z] s.zones[z] (gasInputs s z)) s

/-- R43: step 3 of a zone's evaluation. -/
def evaluateRising (z : Fin 16) (s : State) : State := writeZone z (decideRising s.tables.zones[z] s.zones[z]) s

/-- R43: step 4 of a zone's evaluation. -/
def evaluateContacts (z : Fin 16) (s : State) : State :=
  writeZone z { s.zones[z] with purge := contactClosed s z .purge, equalize := contactClosed s z .equalize } s

/-- R43: step 5 of a zone's evaluation. -/
def evaluateSpill (z : Fin 16) (s : State) : State := writeZone z (decideSpill (spillInputs s z) s.zones[z]) s

/-- R43: one zone's evaluation. -/
def evaluateZone (z : Fin 16) (s : State) : State :=
  evaluateSpill z (evaluateContacts z (evaluateRising z (evaluateGas z s)))

/-! ## Acknowledgement (3.5, 4.4) -/

/-- R53, R73: an acknowledgement of one zone. -/
def acknowledgeRecord (r : ZoneRecord) : ZoneRecord :=
  { r with
    alarmAck := r.alarmAck || r.gas == .alarm
    spillAck := r.spillAck || r.spill == .wet || r.spill == .latched }

/-- R53, R73: an acknowledgement of a named zone. -/
def acknowledgeZone (s : State) (z : Fin 16) : State := setZone z (acknowledgeRecord s.zones[z]) s

end Sys2Proof.Machine
end

