-- ==== Sys2Proof/Machine/Apply.lean ====
section
/-! DEFINITION. The binding table's chains and classes (1.2, 1.4), the poll list (8.2) and the application of the
pending-change list (9.4, 9.5). -/

namespace Sys2Proof.Machine

/-! ## Chains (1.2) -/

/-- The bucket of a binding's key (R3). -/
def bindingBucket (b : Binding) : Fin 16 := bucketOf b.node b.point.val

/-- R11: a slot is appended at the tail of a bucket's chain. -/
def linkSlot (i : Fin 64) (b : Fin 16) (cs : Vector (List (Fin 64)) 16) : Vector (List (Fin 64)) 16 :=
  cs.set b (cs[b] ++ [i])

/-- R11: a slot leaves a bucket's chain; the slots behind it move up. -/
def unlinkSlot (i : Fin 64) (b : Fin 16) (cs : Vector (List (Fin 64)) 16) : Vector (List (Fin 64)) 16 :=
  cs.set b (cs[b].filter fun j => j != i)

/-- R4: the chains built from a loaded table, each in ascending slot number. -/
def builtChains (bs : Vector Binding 64) : Vector (List (Fin 64)) 16 :=
  Vector.ofFn fun b => (List.finRange 64).filter fun i => bs[i].valid && bindingBucket bs[i] == b

/-- R3, R5: the chain position of a slot, its index from the head of its chain. -/
def chainPosition (s : State) (i : Fin 64) : Option Nat :=
  let b := s.tables.bindings[i]
  if b.valid then s.chains[bindingBucket b].findIdx? (· == i) else none

/-! ## Classes and checks of a BINDINGS record (1.4) -/

/-- R10: the class of a BINDINGS record. -/
inductive BindingClass where
  | staysInvalid | validate | invalidate | rekey | rekind | recalibrate | unchanged
deriving DecidableEq, Repr

/-- R2, R10: the fields with effect for the kind, besides the key, are equal; the kinds are equal. -/
def sameEffect (a b : Binding) : Bool :=
  a.zone == b.zone &&
    (match a.kind with
     | .contact => a.role == b.role
     | .leak => a.zeroOffset == b.zeroOffset && a.span == b.span && a.shift == b.shift && a.wetLevel == b.wetLevel
     | _ => a.zeroOffset == b.zeroOffset && a.span == b.span && a.shift == b.shift)

/-- R10: a record compared with the entry its slot holds. A LEAK record that differs in its zone alone is a Recalibrate
(R10, R16, R29, 9.5), though R75 has the pad arrive UNSEEN from a NEW notice (DESIGN CHOICE, log 40). -/
def classify (old new : Binding) : BindingClass :=
  if !old.valid then (if new.valid then .validate else .staysInvalid)
  else if !new.valid then .invalidate
  else if old.node ≠ new.node ∨ old.point ≠ new.point then .rekey
  else if old.kind ≠ new.kind then .rekind
  else if sameEffect old new then .unchanged
  else .recalibrate

/-- R12: some valid slot other than `i` holds the new key. -/
def keyCollides (s : State) (i : Fin 64) (new : Binding) : Bool :=
  (List.finRange 64).any fun j =>
    j != i && s.tables.bindings[j].valid && s.tables.bindings[j].node == new.node && s.tables.bindings[j].point == new.point

/-- R13: the chain of the new key's bucket links 8 slots other than `i`. -/
def chainIsFull (s : State) (i : Fin 64) (new : Binding) : Bool :=
  decide (8 ≤ (s.chains[bindingBucket new].filter fun j => j != i).length)

/-- A valid AIRFLOW binding (R14, R162). -/
def isAirflow (b : Binding) : Bool := b.valid && b.kind == .airflow

/-- R14: a fan names slot `i`, which the record would leave other than a valid AIRFLOW binding. -/
def breaksFan (s : State) (i : Fin 64) (new : Binding) : Bool :=
  isAirflow s.tables.bindings[i] && !isAirflow new &&
    (List.finRange 8).any fun f => s.tables.fans[f].airflowSlot == some i

/-- R10, R15: the checks a class requires, in the order BAD_REFERENCE, KEY_COLLISION, CHAIN_FULL. -/
def bindingRejects (s : State) (i : Fin 64) (new : Binding) : Option Reject :=
  let takesKey : Option Reject :=
    if keyCollides s i new then some .keyCollision else if chainIsFull s i new then some .chainFull else none
  match classify s.tables.bindings[i] new with
  | .validate => takesKey
  | .invalidate => if breaksFan s i new then some .badReference else none
  | .rekey => if breaksFan s i new then some .badReference else takesKey
  | .rekind => if breaksFan s i new then some .badReference else none
  | _ => none

/-- R10, R11: the chains after an applied record. -/
def rechained (i : Fin 64) (old new : Binding) (cs : Vector (List (Fin 64)) 16) : Vector (List (Fin 64)) 16 :=
  match classify old new with
  | .validate => linkSlot i (bindingBucket new) cs
  | .invalidate => unlinkSlot i (bindingBucket old) cs
  | .rekey => linkSlot i (bindingBucket new) (unlinkSlot i (bindingBucket old) cs)
  | _ => cs

/-- R10: the notice a class hands on; RESETTLE for a binding moved to another zone, a LEAK one among them (log 40). -/
def noticeOf : BindingClass → Notice
  | .validate => .fresh
  | .rekey => .fresh
  | .rekind => .fresh
  | .invalidate => .gone
  | .recalibrate => .resettle
  | _ => .silent

/-- R10, R16: an applied BINDINGS record. -/
def applyBinding (i : Fin 64) (new : Binding) (s : State) : State :=
  let old := s.tables.bindings[i]
  takeNotice (noticeOf (classify old new)) i
    { s with tables := { s.tables with bindings := s.tables.bindings.set i new }
             chains := rechained i old new s.chains }

/-! ## ZONES records (R161) -/

/-- R45, R161: the entry as stored: the hysteresis no larger than the watch level. -/
def storedZone (e : ZoneEntry) : ZoneEntry := { e with hysteresis := min e.hysteresis e.watch }

/-- R161: LEVEL_ORDER. -/
def zoneRejects (e : ZoneEntry) : Option Reject := if e.watch ≤ e.alert ∧ e.alert ≤ e.alarm then none else some .levelOrder

/-- R62, R63, R75: the zone record after an applied ZONES record that differs, in WARMUP or RUN. -/
def rezoned (old new : ZoneEntry) (r : ZoneRecord) : ZoneRecord :=
  match old.enabled, new.enabled with
  | true, true => { r with ring := [], rising := false }
  | true, false => ZoneRecord.cleared .inactive
  | false, true => ZoneRecord.cleared .normal
  | false, false => r

/-- R62, R63, R75, R98: an applied ZONES record. -/
def applyZone (z : Fin 16) (e : ZoneEntry) (s : State) : State :=
  let old := s.tables.zones[z]
  let new := storedZone e
  if old = new then s
  else
    let t := { s with tables := { s.tables with zones := s.tables.zones.set z new } }
    if s.mode = .standby ∨ (!old.enabled ∧ !new.enabled) then t
    else
      forEachGroup (servedGroups (old.groupMask ||| new.groupMask)) restage
        (replaceZone z (rezoned old new s.zones[z]) t)

/-! ## GROUPS, FANS and DEVICE records (R162, R163) -/

/-- R97, R116, R162: an applied GROUPS record. R97 lists the stages with the floor rule before the run set and states no order; the
stages, the floor rule and the hand-over come first, so that a take-back acts on the run set as it stood, and a fan that joins
the run set starts at the raised stage at once (DESIGN CHOICE, log 46). -/
def applyGroup (g : Fin 4) (e : GroupEntry) (s : State) : State :=
  if s.tables.groups[g] = e then s
  else
    let t := { s with tables := { s.tables with groups := s.tables.groups.set g e } }
    if s.mode = .standby then t
    else recomputeRunSet g (restage g (setGroup g { t.groups[g] with runOn := 0 } t))

/-- R162: DUPLICATE_DRIVE, then BAD_REFERENCE. -/
def fanRejects (s : State) (f : Fin 8) (e : FanEntry) : Option Reject :=
  if e.enabled && (List.finRange 8).any (fun j =>
      j != f && s.tables.fans[j].enabled && s.tables.fans[j].driveNode == e.driveNode) then some .duplicateDrive
  else
    match e.airflowSlot with
    | some i => if isAirflow s.tables.bindings[i] then none else some .badReference
    | none => none

/-- R116: the changed fan enters MANUAL when its new entry leaves it enabled in a group under hand-over. -/
def joinHandOver (f : Fin 8) (e : FanEntry) (s : State) : State :=
  if e.enabled && s.groups[e.group].handOver then manualFan f s else s

/-- R98, R116, R162: an applied FANS record: the runtime record restarted, then the group the fan belonged to and the one
it belongs to recomputed. Of a moved fan the group left is recomputed, and posts, first (DESIGN CHOICE, log 13). -/
def applyFan (f : Fin 8) (e : FanEntry) (s : State) : State :=
  let old := s.tables.fans[f]
  if old = e then s
  else
    let t := { s with tables := { s.tables with fans := s.tables.fans.set f e } }
    let u := recomputeRunSet old.group (joinHandOver f e (changeFan f FanRecord.cleared t))
    if e.group = old.group then u else recomputeRunSet e.group u

/-! ## The poll list (R131, R132) -/

/-- An address put in its place in a strictly ascending list. -/
def insertAddress (a : Nat) : List Nat → List Nat
  | [] => [a]
  | b :: bs => if a < b then a :: b :: bs else if a = b then b :: bs else b :: insertAddress a bs

/-- R131: the addresses with a valid binding or an enabled fan's drive, in ascending order. -/
def pollAddresses (ts : Tables) : List Nat :=
  (((List.finRange 64).filter fun i => ts.bindings[i].valid).map (fun i => ts.bindings[i].node) ++
    ((List.finRange 8).filter fun f => ts.fans[f].enabled).map (fun f => ts.fans[f].driveNode)).foldr insertAddress []

/-- R131: the point numbers of the valid bindings that name an address. -/
def pointMask (ts : Tables) (a : Nat) : Byte :=
  ((List.finRange 64).filter fun i => ts.bindings[i].valid && ts.bindings[i].node == a).foldr
    (fun i m => m ||| BitVec.twoPow 8 ts.bindings[i].point.val) 0

/-- R131: the enabled fan whose drive node an address is. -/
def driveFan (ts : Tables) (a : Nat) : Option (Fin 8) :=
  (List.finRange 8).find? fun f => ts.fans[f].enabled && ts.fans[f].driveNode == a

/-- R132: one entry of the rebuilt list: its node record carried over when the address stood in the list before. -/
def pollEntry (ts : Tables) (before : List PollEntry) (a : Nat) : PollEntry :=
  match before.find? fun e => e.address == a with
  | some e => { e with mask := pointMask ts a, fan := driveFan ts a }
  | none => { address := a, mask := pointMask ts a, fan := driveFan ts a, state := .unknown, miss := 0, errors := 0 }

/-- R132: the poll list rebuilt from the tables and the list before. -/
def rebuiltList (ts : Tables) (before : List PollEntry) : List PollEntry := (pollAddresses ts).map (pollEntry ts before)

/-! ## The application (9.4) -/

/-- R164: the table of a change record. -/
def Change.table : Change → TableId
  | .binding _ _ => .bindings
  | .zone _ _ => .zones
  | .group _ _ => .groups
  | .fan _ _ => .fans
  | .device _ => .device

/-- R164: the index of a change record. -/
def Change.index : Change → Nat
  | .binding i _ => i.val
  | .zone i _ => i.val
  | .group i _ => i.val
  | .fan i _ => i.val
  | .device _ => 0

/-- R160: the check that refuses a record, judged against the state the records before it have left. -/
def changeRejects (s : State) : Change → Option Reject
  | .binding i e => bindingRejects s i e
  | .zone _ e => zoneRejects e
  | .group _ _ => none
  | .fan f e => fanRejects s f e
  | .device _ => if s.mode = .standby then none else some .notInStandby

/-- R160: an applied record and its consequences. -/
def applyChange (c : Change) (s : State) : State :=
  match c with
  | .binding i e => applyBinding i e s
  | .zone z e => applyZone z e s
  | .group g e => applyGroup g e s
  | .fan f e => applyFan f e s
  | .device e => { s with tables := { s.tables with device := e } }

/-- R160, R164: the records taken one at a time; the state they leave, and how many were applied and rejected. -/
def applyRecords : List Change → State → State × Nat × Nat
  | [], s => (s, 0, 0)
  | c :: cs, s =>
    match changeRejects s c with
    | none =>
      let r := applyRecords cs (judgeAlarm (applyChange c s))
      (r.1, r.2.1 + 1, r.2.2)
    | some why =>
      let r := applyRecords cs (post .tableReject c.table.code (detailOf why.code c.index) s)
      (r.1, r.2.1, r.2.2 + 1)

/-- R160: the close of an application, step 1. -/
def closeTables (applied : Nat) (s : State) : State :=
  if applied = 0 then s
  else
    let t := forEachGroup (List.finRange 4) recomputeRunSet s
    { t with pollList := rebuiltList t.tables t.pollList }

/-- R160: an application of the pending-change list. -/
def application (s : State) : State :=
  let r := applyRecords s.changes s
  judgeAll (post .applied 0 (detailOf r.2.1 r.2.2) { closeTables r.2.1 r.1 with changes := [] })

/-- R159: an apply point. -/
def applyPoint (s : State) : State :=
  if !s.hold ∧ s.save = none ∧ s.changes ≠ [] then application s else s

end Sys2Proof.Machine
end

