-- ==== Sys2Proof/Machine/Survey.lean ====
section
/-! DEFINITION. Modes, the work of a survey completion, transit and the field port (chapters 8, 10.3 and 11.1).

The completion is a list of pieces of work, done one after another. A piece that brings a count to its end is a step of its
own in the table (OVERRIDE_EXPIRED, PROOF_TIMEOUT, HOLD_EXPIRED, WARMUP_COUNT_END, FAULTED_COUNTDOWN_END): the work waits
there until that command comes (log 1). -/

namespace Sys2Proof.Machine

/-! ## Segment and mode changes -/

/-- R148: the changes of segment state that post SEGMENT_STATE. -/
def segmentPosts (old new : Segment) : Bool :=
  old != new &&
    (old == .idle || old == .faulted || old == .released || new == .idle || new == .faulted || new == .released)

/-- R148, R121: the segment changes state: its event, then HEALTHY. -/
def changeSegment (new : Segment) (s : State) : State :=
  let t := { s with segment := new }
  if segmentPosts s.segment new then
    judgeHealthy (post .segmentState 0 (detailOf new.code s.segment.code) t)
  else t

/-- R184: the mode changes, posting MODE_CHANGE. -/
def changeMode (new : Mode) (s : State) : State :=
  post .modeChange 0 (detailOf new.code s.mode.code) { s with mode := new }

/-! ## Transit (10.3) -/

/-- R176: a CONFIG is denied by a valid binding of the node whose zone is in ALERT, ALARM or FAULT or shows PURGE. -/
def configDenied (s : State) (dest : Nat) : Bool :=
  (List.finRange 64).any fun i =>
    let b := s.tables.bindings[i]
    let z := s.zones[b.zone]
    b.valid && b.node == dest && (z.gas == .alert || z.gas == .alarm || z.gas == .fault || z.purge)

/-- R176: a DRIVE is permitted to the drive node of an enabled fan whose group is under hand-over. -/
def drivePermitted (s : State) (dest : Nat) : Bool :=
  (List.finRange 8).any fun f =>
    s.tables.fans[f].enabled && s.tables.fans[f].driveNode == dest && s.groups[fanGroup s f].handOver

/-- R176: the permit of a transit frame. -/
def permitted (s : State) (kind : FrameKind) (dest : Nat) : Bool :=
  match kind with
  | .query => true
  | .config => !configDenied s dest
  | .drive => drivePermitted s dest

/-- R143, R177: the oldest WAITING entries judged until one is permitted: the queue with the refused ones DENIED and the
permitted one SENT, and that entry. -/
def takeWaiting (s : State) : List TransitEntry → List TransitEntry × Option TransitEntry
  | [] => ([], none)
  | e :: es =>
    if e.state = .waiting then
      if permitted s e.kind e.dest then ({ e with state := .sent } :: es, some e)
      else
        let r := takeWaiting s es
        ({ e with state := .done .denied } :: r.1, r.2)
    else
      let r := takeWaiting s es
      (e :: r.1, r.2)

/-- R143: dispatch goes on with the next WAITING entry, or ends. -/
def dispatchNext (s : State) : State :=
  if s.tables.device.transitAllowance ≤ s.dispatched then { s with segment := .waiting }
  else
    let r := takeWaiting s s.transits
    match r.2 with
    | none => { s with transits := r.1, segment := .waiting }
    | some e =>
      { s with transits := r.1, dispatched := s.dispatched + 1,
               transaction :=
                 some { owner := .transit, frame := fieldFrame e.dest e.kind e.payload, left := 0, phase := .sending } }

/-- R143: transit dispatch begins. -/
def beginDispatch (s : State) : State := dispatchNext { s with segment := .transit, dispatched := 0 }

/-- R177: the SENT entry with its outcome. -/
def completedEntry (r : TransitResult) (reading : List Byte) (e : TransitEntry) : TransitEntry :=
  if e.state = .sent then { e with state := .done r, reading := reading } else e

/-- R29, R177: a CONFIG that completes REPLY marks its destination's channels. -/
def marksOf (r : TransitResult) (es : List TransitEntry) (s : State) : State :=
  match es.find? fun e => e.state == .sent with
  | some e => if e.kind = .config ∧ r = .reply then markNode e.dest s else s
  | none => s

/-- R143, R177: the transit transaction in flight ends with an outcome. -/
def endTransit (r : TransitResult) (reading : List Byte) (s : State) : State :=
  marksOf r s.transits { s with transaction := none, transits := s.transits.map (completedEntry r reading) }

/-- R143, R144: after a transit transaction, dispatch goes on, unless a deferred tick stops it. -/
def afterTransit (s : State) : State := if s.deferredTick then s else dispatchNext s

/-! ## The work of a completion -/

/-- The piece of work would bring a count to its end: a step of its own (log 1). -/
def endsCount (s : State) : Work → Bool
  | .countExpiry g => expiryEnds s.groups[g]
  | .supervise g => (judgedFans s g).any (proofRunsOut s)
  | .countHold => s.hold && decide (s.tables.device.holdLimit ≤ s.holdCount + 1)
  | .countWarmup => s.mode == .warmup && decide (s.warmupLeft ≤ 1)
  | .countFaulted => s.segment == .faulted && decide (s.countdown ≤ 1)
  | _ => false

/-- One piece of work that brings no count to its end. -/
def doWork (w : Work) (s : State) : State :=
  match w with
  | .age => ageChannels s
  | .evaluate z => evaluateZone z s
  | .endPass => judgeAll s
  | .stepBegins g => beginGroupStep g s
  | .countExpiry g => countExpiry g s
  | .stageUpdate g => updateStage g s
  | .startsStops g => judgeAlarm (startsAndStops g s)
  | .supervise g => superviseGroup g s
  | .setpoints g => judgeFans (writeSetpoints g s)
  | .countHold => if s.hold then { s with holdCount := s.holdCount + 1 } else s
  | .countWarmup => if s.mode = .warmup then { s with warmupLeft := s.warmupLeft - 1 } else s
  | .countFaulted => if s.segment = .faulted then { s with countdown := s.countdown - 1 } else s
  | .close => if s.segment = .polling then beginDispatch s else s

/-- The pieces of work done in turn, up to one that brings a count to its end. -/
def runWork : List Work → State → State
  | [], s => { s with work := [] }
  | w :: ws, s => if endsCount s w then { s with work := w :: ws } else runWork ws (doWork w s)

/-- The work waiting goes on, when what it waited for no longer stands. -/
def resume (s : State) : State := runWork s.work s

/-- An order drawn for a list (log 4), and the state with the occasion used up. -/
def drawOrder {α : Type} (xs : List α) (s : State) : List α × State := (freeOrder s.draws xs, drawn xs s)

/-- R86, R109: the pieces of one group's step. -/
def groupWork (g : Fin 4) : List Work :=
  [.stepBegins g, .countExpiry g, .stageUpdate g, .startsStops g, .supervise g, .setpoints g]

/-- The counts of a completion: hold, warmup, and in an empty cycle of a FAULTED segment the countdown (log 14). A hold that
a request turns on in a pause of the completion is not counted by it (DESIGN CHOICE, log 42). -/
def countsDue (empty : Bool) (s : State) : List Work :=
  (if s.hold then [.countHold] else []) ++ (if s.mode = .warmup then [.countWarmup] else []) ++
    (if empty ∧ s.segment = .faulted then [.countFaulted] else [])

/-- R142: the pieces of work of a completion, in its order; `empty` for an empty cycle (R145). -/
def completionWork (empty : Bool) (s : State) : List Work × State :=
  let zs := drawOrder ((List.finRange 16).filter fun z => s.tables.zones[z].enabled) s
  let gs := drawOrder ((List.finRange 4).filter fun g => !quietGroup s g) zs.2
  let cs := drawOrder (countsDue empty s) gs.2
  (.age :: zs.1.map .evaluate ++ [.endPass] ++
    (((List.finRange 4).filter fun g => quietGroup s g) ++ gs.1).flatMap groupWork ++ cs.1 ++ [.close], cs.2)

/-- R142: survey completion. -/
def surveyCompletion (empty : Bool) (s : State) : State :=
  let r := completionWork empty { s with cycleCount := s.cycleCount + 1 }
  runWork r.1 r.2

/-! ## The poll walk (8.2 to 8.4) -/

/-- R133: the frame a poll list entry is sent at its turn. -/
def pollFrame (s : State) (e : PollEntry) : Frame :=
  match e.fan with
  | some f =>
    if s.groups[fanGroup s f].handOver then fieldFrame e.address .query [e.mask]
    else fieldFrame e.address .drive [byteOf s.fans[f].setpoint, e.mask]
  | none => fieldFrame e.address .query [e.mask]

/-- R141, R142: the walk goes on with the first entry above an address, or ends in survey completion. -/
def pollAfter (address : Nat) (s : State) : State :=
  match s.pollList.find? fun e => decide (address < e.address) with
  | some e =>
    { s with
      transaction :=
        some { owner := .poll e.address, frame := pollFrame s e, left := s.tables.device.retries, phase := .sending } }
  | none => surveyCompletion false { s with transaction := none }

/-- R141: a survey cycle starts. A held tick whose DEFERRED_TICK is still to come when another tick starts the cycle is
dropped: one tick starts one cycle (DESIGN CHOICE, log 43). An empty cycle starts none, and keeps the held tick (log 45). -/
def startCycle (s : State) : State := pollAfter 0 (applyPoint { s with segment := .polling, deferredTick := false })

/-- R145: an empty cycle. -/
def emptyCycle (s : State) : State := surveyCompletion true (applyPoint s)

/-- One entry of the poll list changed. -/
def updateEntry (address : Nat) (f : PollEntry → PollEntry) (s : State) : State :=
  { s with pollList := s.pollList.map fun e => if e.address = address then f e else e }

/-- R134: the event of a node's new state. -/
def postNode (address : Nat) (old new : NodeState) (miss : Nat) (s : State) : State :=
  if old = new then s else post .nodeState address (detailOf (new.code + 16 * old.code) miss) s

/-- R134: a node's record on the outcome of its transaction, with its event. -/
def nodeOutcome (address : Nat) (answered : Bool) (s : State) : State :=
  match s.pollList.find? fun e => e.address == address with
  | none => s
  | some e =>
    let new : NodeState := if answered then .online else .offline
    let miss := if answered then 0 else min 255 (e.miss + 1)
    postNode address e.state new miss (updateEntry address (fun e => { e with state := new, miss := miss }) s)

/-- R137: a failed attempt counted in the node's error count. -/
def countError (address : Nat) (s : State) : State :=
  updateEntry address (fun e => { e with errors := min 255 (e.errors + 1) }) s

/-- R137: a poll attempt has failed: the next attempt waits for an idle line, or the node is missed and the walk goes on. -/
def pollFailed (t : Transaction) (address : Nat) (s : State) : State :=
  match t.left with
  | n + 1 => { s with transaction := some { t with left := n, phase := .gap } }
  | 0 => pollAfter address (nodeOutcome address false s)

/-- R135, R137, R143: the attempt in flight has failed, other than by contention. -/
def attemptFailed (t : Transaction) (s : State) : State :=
  match t.owner with
  | .poll a => pollFailed t a (countError a s)
  | .transit => afterTransit (endTransit .timeout [] s)

/-- R136, R143: the attempt in flight has drawn a valid reply. -/
def attemptAnswered (t : Transaction) (reply : Frame) (s : State) : State :=
  match t.owner with
  | .poll a => pollAfter a (readingArrival a reply.payload (nodeOutcome a true s))
  | .transit => afterTransit (endTransit .reply reply.payload s)

/-- R139: the segment becomes FAULTED. -/
def faultSegment (s : State) : State := changeSegment .faulted { s with countdown := 2 }

/-- R138, R139: the attempt in flight has met contention. -/
def attemptContended (t : Transaction) (s : State) : State :=
  let c := s.contention + 1
  let u := { s with contention := c }
  if 3 ≤ c then
    match t.owner with
    | .poll a => surveyCompletion false (faultSegment (nodeOutcome a false { u with transaction := none }))
    | .transit => faultSegment (endTransit .abandoned [] u)
  else
    match t.owner with
    | .poll a => pollFailed t a u
    | .transit => afterTransit (endTransit .abandoned [] u)

/-- R144: a tick is dropped; CYCLE_OVERRUN gives the node in flight, or 0. -/
def overrun (s : State) : State :=
  let a : Nat := match s.transaction with
    | some t => t.frame.dst.toNat
    | none => 0
  post .cycleOverrun 0 (detailOf 0 a) s

/-- R140, R141, R144, R145, R147: a tick taken by the rule for the segment state it finds. A tick that finds the work of
an earlier completion waiting is dropped, whatever the segment state (log 15). A tick of the FAULTED state that comes
before a due held tick leaves that one held, so each of the two runs its own empty cycle (DESIGN CHOICE, log 45). -/
def takeTick (s : State) : State :=
  if s.segment = .idle then s
  else if s.segment = .polling ∨ s.work ≠ [] then overrun s
  else
    match s.segment with
    | .transit => if s.transaction.isSome then { s with deferredTick := true } else startCycle s
    | .faulted => emptyCycle s
    | .released => if s.releaseLine then emptyCycle s else startCycle (changeSegment .waiting s)
    | _ => startCycle s

/-! ## Service release (8.5) -/

/-- R146: the segment becomes RELEASED, with its two events. -/
def becomeReleased (s : State) : State :=
  post .serviceRelease 0 (detailOf 0 1) (changeSegment .released { s with contention := 0, countdown := 0 })

/-- R146: a deferred tick held for the transit transaction is taken as a tick of the RELEASED state. -/
def takeHeldTick (s : State) : State := if s.deferredTick then takeTick { s with deferredTick := false } else s

/-- R146, R147: the release line becomes asserted in WARMUP or RUN with the release enable set. -/
def releaseSegment (s : State) : State :=
  if s.segment = .released then post .serviceRelease 0 (detailOf 0 1) s
  else
    match s.transaction with
    | some t =>
      let u := { s with transaction := none }
      match t.owner with
      | .poll a => surveyCompletion false (becomeReleased (nodeOutcome a false u))
      | .transit => takeHeldTick (becomeReleased (endTransit .abandoned [] s))
    | none =>
      if s.segment = .polling ∧ s.work = [] then surveyCompletion false (becomeReleased s)
      else takeHeldTick (resume (becomeReleased s))

/-- The line is acted on: the release enable is set in WARMUP or RUN (R146, R147). -/
def releaseActed (s : State) : Bool := s.mode != .standby && s.tables.device.releaseEnable

/-! ## Mode changes (11.1) -/

/-- R185 step 3, R65, R76: every enabled zone NORMAL and cleared, every disabled zone INACTIVE. -/
def warmupZones (s : State) : State :=
  { s with
    zones := Vector.ofFn fun z => ZoneRecord.cleared (if s.tables.zones[z].enabled then .normal else .inactive) }

/-- R147, R185: the segment at WARMUP entry. -/
def warmupSegment (s : State) : State :=
  if s.tables.device.releaseEnable && s.releaseLine then
    post .serviceRelease 0 (detailOf 0 1) (changeSegment .released s)
  else changeSegment .waiting s

/-- R106, R83, R93: at a mode change every group's stages, hand-over and run set are recomputed, in the order of log 46. -/
def regroup (s : State) : State :=
  forEachGroup (List.finRange 4) recomputeRunSet (forEachGroup (List.finRange 4) restage s)

/-- R185: a RUN request accepted in STANDBY. Within step 3 the groups and fans post before the segment (DESIGN CHOICE, log 13). -/
def enterWarmup (s : State) : State :=
  let a := applyPoint s
  let m := changeMode .warmup { a with warmupLeft := a.tables.device.warmupCount }
  judgeAll { warmupSegment (regroup (warmupZones m)) with timerOn := true }

/-- R186: the end of the warmup count. MODE_CHANGE is posted before the events of the groups' recomputation (DESIGN CHOICE,
log 13). -/
def enterRun (s : State) : State := judgeAll (regroup (changeMode .run { s with warmupLeft := 0 }))

/-- R99: a group record at STANDBY entry; the stack is kept. -/
def standbyGroup (r : GroupRecord) : GroupRecord :=
  { r with demand := 0, floor := 0, effective := 0, commanded := 0, runOn := 0, handOver := false }

/-- R117: a fan record at STANDBY entry. -/
def standbyFan (r : FanRecord) : FanRecord :=
  { r with state := if r.reason = .none then .off else .failed, timer := 0, streak := 0, setpoint := 0, fresh := false }

/-- R149: a node record at STANDBY entry. -/
def standbyNode (e : PollEntry) : PollEntry := { e with state := .unknown, miss := 0 }

/-- R177: a transit entry at STANDBY entry. -/
def cancelEntry (e : TransitEntry) : TransitEntry :=
  match e.state with
  | .done _ => e
  | _ => { e with state := .done .cancelled }

/-- R149, R187: the field port, the transit queue and the completion at STANDBY entry. -/
def standbyPort (s : State) : State :=
  changeSegment .idle
    { s with transaction := none, timerOn := false, deferredTick := false, countdown := 0, contention := 0, work := [],
             pollList := s.pollList.map standbyNode, transits := s.transits.map cancelEntry }

/-- R187: a STANDBY request taken in WARMUP or RUN. R187 states no order of its two events; MODE_CHANGE is posted before
SEGMENT_STATE (DESIGN CHOICE, log 13). -/
def enterStandby (s : State) : State :=
  let t := standbyPort (changeMode .standby { s with warmupLeft := 0 })
  let u := { t with channels := restartedChannels t.tables
                    zones := Vector.replicate 16 (ZoneRecord.cleared .inactive)
                    groups := Vector.ofFn fun g => standbyGroup t.groups[g]
                    fans := Vector.ofFn fun f => standbyFan t.fans[f] }
  judgeAll (forEachGroup (List.finRange 4) recomputeRunSet u)

/-- R188, R189: every runtime record at its device-reset value, for the tables, chains and store-valid flag as they stand,
the event queue emptied and STARTED posted. -/
def restartRuntime (s : State) : State :=
  let t := { s with
    work := [], inReset := false, mode := .standby, warmupLeft := 0, channels := restartedChannels s.tables
    zones := Vector.replicate 16 (ZoneRecord.cleared .inactive), fans := Vector.replicate 8 FanRecord.cleared
    groups := computedRunSets s.tables (Vector.replicate 8 FanRecord.cleared) (Vector.replicate 4 GroupRecord.cleared)
    outputs := Outputs.off, segment := .idle, timerOn := false, deferredTick := false, cycleCount := 0, contention := 0
    countdown := 0, transaction := none, dispatched := 0, pollList := rebuiltList s.tables [], changes := []
    hold := false, holdCount := 0, transits := [], transitCount := 0, save := none, events := [], lost := 0 }
  post .started 0 (detailOf 0 t.storeValid.toNat) t

end Sys2Proof.Machine
end

