-- ==== Sys2Proof/Machine/Trunk.lean ====
section
/-! DEFINITION. The trunk port (10.1): taking a request, forming its reply, and the reply data of the reads (10.4). -/

namespace Sys2Proof.Machine

/-- What a request's work gives: the state it leaves, the result, and the reply data (R170). -/
structure Answer where
  state : State
  result : Result
  data : List Byte

/-- A request answered with a result that returns no data and leaves the state as given (R170). -/
def answerOnly (r : Result) (s : State) : Answer := { state := s, result := r, data := [] }

/-- R168: the port receives frames: it is LISTENING, no reset lasts, and the straps gave an address other than 0 and
127. -/
def listens (s : State) : Bool :=
  !s.inReset && s.trunkPort == .listening && s.trunkAddress != 0 && s.trunkAddress != 127

/-- R168, R169: the frame the port takes as a request from the characters received after an opening mark: a frame of good
CRC whose destination is the trunk address. Every other reception is dropped, as is one while the port does not listen. -/
def hears (s : State) (chars : List Byte) : Option Frame :=
  match receive trunkLimit chars with
  | .frame f => if listens s ∧ f.dst = s.trunkAddress.setWidth 8 then some f else none
  | _ => none

/-- R169 to R171: the reply frame of an answer: result, attention byte, data. -/
def replyFrame (code src : Byte) (a : Answer) : Frame :=
  { dst := src, src := a.state.trunkAddress.setWidth 8, kind := code,
    payload := byteOf a.result.code :: attention a.state :: a.data }

/-- R169: the reply to a taken frame is formed and the port sends it; `readStraps` for RESTART (R189). -/
def answerFrame (f : Frame) (readStraps : Bool) (a : Answer) : State :=
  { a.state with trunkPort := .answering (replyFrame f.kind f.src a) readStraps }

/-- R169, R181: the frame the port takes as the request of code `code`. A frame of another code is another row's
(log 22). -/
def takes (s : State) (code : Byte) (chars : List Byte) : Option Frame :=
  match hears s chars with
  | some f => if f.kind = code then some f else none
  | none => none

/-- R169: a request is taken, its work done on its payload and its reply formed, in one event. Characters that are no such
request change nothing (R168). -/
def answerRequest (code : Byte) (chars : List Byte) (work : List Byte → State → Answer) (s : State) : State :=
  match takes s code chars with
  | some f => answerFrame f false (work f.payload s)
  | none => s

/-- The same, after which the work of a completion goes on, when the request has removed what it waited for (log 1). -/
def answerAndResume (code : Byte) (chars : List Byte) (work : List Byte → State → Answer) (s : State) : State :=
  match takes s code chars with
  | some f => resume (answerFrame f false (work f.payload s))
  | none => s

/-- R170 stage 2: a request that carries no data. -/
def withoutData (work : State → Answer) (payload : List Byte) (s : State) : Answer :=
  match payload with
  | [] => work s
  | _ => answerOnly .badRequest s

/-- R170 stages 2 and 3: a request that carries one byte naming one of `n` records. -/
def withIndex (n : Nat) (work : Fin n → State → Answer) (payload : List Byte) (s : State) : Answer :=
  match payload with
  | [b] =>
    match finOf n b.toNat with
    | some i => work i s
    | none => answerOnly .badIndex s
  | _ => answerOnly .badRequest s

/-- A read: DONE with data, nothing changed. -/
def readOnly (data : List Byte) (s : State) : Answer := { state := s, result := .done, data := data }

/-! ## Reply data of the reads (R181, R183) -/

/-- R183: an output's bits in STATUS. -/
def outputsByte (o : Outputs) : Byte :=
  byteOf (o.chargePermit.toNat + 2 * o.ventProven.toNat + 4 * o.beacon.toNat + 8 * o.healthy.toNat)

/-- R183: the first of a zone's two bytes in STATUS. -/
def zoneStateByte (z : ZoneRecord) : Byte :=
  byteOf (z.gas.code + 8 * z.spill.code + 32 * z.alarmAck.toNat + 64 * z.spillAck.toNat)

/-- R183: the second of a zone's two bytes in STATUS. -/
def zoneFlagsByte (enabled : Bool) (z : ZoneRecord) : Byte :=
  byteOf (z.rising.toNat + 2 * z.purge.toNat + 4 * z.equalize.toNat + 8 * z.noSense.toNat + 16 * z.spillBlind.toNat +
    32 * enabled.toNat)

/-- R183: a group's two bytes in STATUS. -/
def groupBytes (g : GroupRecord) : List Byte :=
  [byteOf (g.commanded + 16 * g.condition.code + 64 * g.handOver.toNat), byteOf (g.floor + 16 * g.stack.length)]

/-- R172, R183: the STATUS summary. -/
def statusData (s : State) : List Byte :=
  [byteOf s.mode.code, byteOf s.warmupLeft, byteOf s.segment.code, outputsByte s.outputs,
    byteOf (s.storeValid.toNat + 2 * s.save.isSome.toNat + 4 * s.hold.toNat)] ++ halfOf s.holdCount ++
    [byteOf s.changes.length, byteOf s.events.length, byteOf s.lost, byteOf s.transits.length,
      byteOf (s.pollList.filter fun e => e.state == .offline).length, byteOf s.pollList.length] ++
    wordBytes s.cycleCount ++
    ((List.finRange 16).flatMap fun z =>
      [zoneStateByte s.zones[z], zoneFlagsByte s.tables.zones[z].enabled s.zones[z]]) ++
    ((List.finRange 4).flatMap fun g => groupBytes s.groups[g])

/-- R38, R181: the READ-CHANNEL data. -/
def channelData (s : State) (i : Fin 64) : List Byte :=
  let b := s.tables.bindings[i]
  let c := s.channels[i]
  [byteOf b.kind.code, byteOf b.zone.val, byteOf c.health.code] ++ halfOf c.filtered ++ halfOf c.conditioned ++
    halfOf c.raw ++ [byteOf c.contact.code, byteOf (c.lowClamp.toNat + 2 * c.overrange.toNat), byteOf c.age,
      byteOf c.settleLeft, byteOf c.mark.code]

/-- A list cut or filled up with a value to `n` entries. -/
def padTo {α : Type} (n : Nat) (x : α) (xs : List α) : List α := xs.take n ++ List.replicate (n - xs.length) x

/-- R67, R181: the READ-ZONE data. -/
def zoneData (s : State) (z : Fin 16) : List Byte :=
  let r := s.zones[z]
  let e := s.tables.zones[z]
  [flagByte e.enabled, byteOf r.gas.code] ++ halfOf r.reading ++
    [byteOf r.healthy, byteOf r.settling, byteOf r.bound, byteOf r.alarmVotes, byteOf r.effectiveVote,
      zoneFlagsByte e.enabled r, flagByte r.alarmAck, byteOf r.spill.code, flagByte r.spillAck, byteOf r.ring.length] ++
    (padTo 8 0 r.ring).flatMap halfOf

/-- R89, R181: the six bytes of a context. -/
def contextData (c : Context) : List Byte :=
  [byteOf c.kind.code, byteOf c.stage] ++ halfOf c.expiry ++ halfBytes c.tag

/-- R102, R181: the READ-GROUP data; the contexts bottom first. -/
def groupData (s : State) (g : Fin 4) : List Byte :=
  let r := s.groups[g]
  [byteOf r.demand, byteOf r.floor, byteOf r.effective, byteOf r.commanded] ++ halfOf r.runOn ++
    [flagByte r.handOver, flagByte (groupEnabled s.tables g), byteOf r.condition.code, byteOf r.runSet.length] ++
    padTo 4 noneCode (r.runSet.map fun f => byteOf f.val) ++ [byteOf r.stack.length] ++
    padTo 24 0 (r.stack.reverse.flatMap contextData)

/-- R118, R181: the READ-FAN data. -/
def fanData (s : State) (f : Fin 8) : List Byte :=
  let e := s.tables.fans[f]
  let r := s.fans[f]
  encodeFan e ++
    [byteOf r.state.code, byteOf r.timer, byteOf r.streak, byteOf r.reason.code, byteOf r.setpoint,
      flagByte (s.groups[e.group].runSet.contains f)] ++
    (match e.airflowSlot with
     | some i => byteOf s.channels[i].health.code :: halfOf s.channels[i].filtered
     | none => noneCode :: halfOf 0)

/-- R151, R181: the READ-NODE data of an address. -/
def nodeData (s : State) (address : Nat) : List Byte :=
  match s.pollList.find? fun e => e.address == address with
  | some e =>
    [flagByte true, flagByte e.fan.isSome, e.mask, optionByte e.fan, byteOf e.state.code, byteOf e.miss, byteOf e.errors]
  | none => [flagByte false]

/-- R5, R182: an entry as READ-TABLE returns it: a BINDINGS entry with its bucket and chain position. -/
def readEntry (s : State) (t : TableId) (index : Nat) : Option (List Byte) :=
  match t with
  | .bindings =>
    (finOf 64 index).map fun i =>
      encodeBinding s.tables.bindings[i] ++
        [byteOf (bindingBucket s.tables.bindings[i]).val,
          (match chainPosition s i with | some p => byteOf p | none => noneCode)]
  | t => encodeEntry s.tables t index

/-- R173: the entries of a block, or nothing when an index of it is outside the table. -/
def readBlock (s : State) (t : TableId) (start : Nat) : Nat → Option (List Byte)
  | 0 => some []
  | n + 1 =>
    match readEntry s t start, readBlock s t (start + 1) n with
    | some e, some es => some (e ++ es)
    | _, _ => none

/-- R183: an event record as FETCH-EVENTS returns it. -/
def eventBytes (e : EventRecord) : List Byte :=
  [byteOf e.kind.code, e.subject] ++ halfBytes e.detail ++ wordBytes e.stamp ++ [byteOf e.repeats]

end Sys2Proof.Machine
end

