-- ==== Sys2Proof/Machine/LineCommands.lean ====
section
/-! DEFINITION. The commands of the reset pin, the cycle tick timer, the field line and the service release line. An event
that cannot come in the state it finds changes nothing (log 2); while a reset lasts the part does nothing (log 25). -/

namespace Sys2Proof.Machine

/-- The outcome of an event, which has its effect unless a reset lasts (R188). -/
def live (s t : State) : Host.Outcome State Fault Refusal := .next (if s.inReset then s else t)

/-! ## Reset -/

/-- RESET_ASSERTED (R188): the relay drivers de-energize, no frame is taken while the reset lasts, and a SAVE in flight is
abandoned. -/
def execResetAsserted (s : State) : Host.Outcome State Fault Refusal :=
  .next { s with inReset := true, outputs := Outputs.off, save := none }

/-- R190: the tables of the store, when its check passes. -/
def loadStore (st : Store) : Option Tables :=
  match st.check with
  | some c => if crc st.image = c then decodeTables st.image else none
  | none => none

/-- R188, R190: the tables loaded, or the defaults, with the store-valid flag and the chains built (R4). -/
def loadTables (s : State) : State :=
  match loadStore s.store with
  | some ts => { s with tables := ts, chains := builtChains ts.bindings, storeValid := true }
  | none => { s with tables := Tables.default, chains := builtChains Tables.default.bindings, storeValid := false }

/-- R168: the straps are read. -/
def readStraps (straps : BitVec 7) (rate : Bool) (s : State) : State :=
  { s with trunkAddress := straps, trunkRate := rate, trunkPort := .listening }

/-- DEVICE_RESET (R188): the reset ends. -/
def execDeviceReset (straps : BitVec 7) (rate : Bool) (s : State) : Host.Outcome State Fault Refusal :=
  .next (restartRuntime (loadTables (readStraps straps rate s)))

/-! ## Ticks -/

/-- CYCLE_TICK (R140): a firing of the timer, which runs in WARMUP and RUN. -/
def execCycleTick (s : State) : Host.Outcome State Fault Refusal := live s (if s.timerOn then takeTick s else s)

/-- R144: a held tick is due: the transit transaction it waited for has ended. -/
def heldTickDue (s : State) : Bool := s.deferredTick && s.transaction.isNone && s.work.isEmpty

/-- DEFERRED_TICK (R144). -/
def execDeferredTick (s : State) : Host.Outcome State Fault Refusal :=
  live s (if heldTickDue s then takeHeldTick s else s)

/-! ## The attempt in flight (8.3) -/

/-- The event acts on the transaction in flight, when its attempt is in the phase the event ends. -/
def inPhase (p : Phase) (f : Transaction → State → State) (s : State) : State :=
  match s.transaction with
  | some t => if t.phase = p then f t s else s
  | none => s

/-- The attempt in flight passes to another phase. -/
def toPhase (p : Phase) (t : Transaction) (s : State) : State := { s with transaction := some { t with phase := p } }

/-- FRAME_TRANSMITTED (R135, R138): the contention count is set to 0 and the reply wait starts. -/
def execFrameTransmitted (s : State) : Host.Outcome State Fault Refusal :=
  live s (inPhase .sending (fun t u => toPhase .awaiting t { u with contention := 0 }) s)

/-- CONTENTION_MISMATCH (R138, R139). -/
def execContentionMismatch (s : State) : Host.Outcome State Fault Refusal :=
  live s (inPhase .sending attemptContended s)

/-- OPENING_MARK_RECEIVED (R135): a reception starts. -/
def execOpeningMarkReceived (s : State) : Host.Outcome State Fault Refusal :=
  live s (inPhase .awaiting (toPhase .receiving) s)

/-- R129, R130: a reception ends with the characters taken after the opening mark. -/
def endReception (chars : List Byte) (t : Transaction) (s : State) : State :=
  match receive fieldLimit chars with
  | .unfinished => s
  | .frame f => if validReply t.frame.dst f then attemptAnswered t f s else attemptFailed t s
  | _ => attemptFailed t s

/-- FIELD_RECEPTION_END (R129, R130, R136, R137, R143). -/
def execFieldReceptionEnd (chars : List Byte) (s : State) : Host.Outcome State Fault Refusal :=
  live s (inPhase .receiving (endReception chars) s)

/-- FRAMING_ERROR (R129, R137, R143). -/
def execFramingError (s : State) : Host.Outcome State Fault Refusal := live s (inPhase .receiving attemptFailed s)

/-- REPLY_TIMEOUT (R135, R137, R143). -/
def execReplyTimeout (s : State) : Host.Outcome State Fault Refusal := live s (inPhase .awaiting attemptFailed s)

/-- NEXT_ATTEMPT (R135): the frame is sent again, unchanged (R133). -/
def execNextAttempt (s : State) : Host.Outcome State Fault Refusal := live s (inPhase .gap (toPhase .sending) s)

/-! ## The service release line (8.5) -/

/-- SERVICE_RELEASE_ASSERTED (R146, R147): the line becomes asserted. -/
def execServiceReleaseAsserted (s : State) : Host.Outcome State Fault Refusal :=
  let t := { s with releaseLine := true }
  .next (if !s.inReset && releaseActed s && !s.releaseLine then releaseSegment t else t)

/-- SERVICE_RELEASE_DEASSERTED (R147): the line becomes deasserted. -/
def execServiceReleaseDeasserted (s : State) : Host.Outcome State Fault Refusal :=
  let t := { s with releaseLine := false }
  .next (if !s.inReset && releaseActed s && s.releaseLine && s.segment == .released then
      post .serviceRelease 0 (detailOf 0 0) t
    else t)

end Sys2Proof.Machine
end

