-- ==== Sys2Proof/Machine/CountCommands.lean ====
section
/-! DEFINITION. The commands in which a count of a survey completion comes to its end (log 1), and those of the store
write. -/

namespace Sys2Proof.Machine

/-- The piece of work that waits because it brings a count to its end, with what comes after it. -/
def waitingCount (s : State) : Option (Work × List Work) :=
  match s.work with
  | w :: ws => if endsCount s w then some (w, ws) else none
  | [] => none

/-- OVERRIDE_EXPIRED (R92): the top context of the group whose step is under way expires, and the step goes on. -/
def execOverrideExpired (s : State) : Host.Outcome State Fault Refusal :=
  live s (match waitingCount s with
    | some (.countExpiry g, ws) => runWork ws (expireTop g s)
    | _ => s)

/-- PROOF_TIMEOUT (R110, R112): the fans of the group under judgement are judged, those whose proof timer comes to 0 enter
FAILED with reason NO_PROOF, the failover is made (log 27), and the step goes on. -/
def execProofTimeout (s : State) : Host.Outcome State Fault Refusal :=
  live s (match waitingCount s with
    | some (.supervise g, ws) => runWork ws (superviseGroup g s)
    | _ => s)

/-- R158: hold expires: the list is emptied, hold cleared and the count set to 0. -/
def expireHold (s : State) : State :=
  post .holdExpired 0 (detailOf 0 s.changes.length) { s with changes := [], hold := false, holdCount := 0 }

/-- HOLD_EXPIRED (R158). -/
def execHoldExpired (s : State) : Host.Outcome State Fault Refusal :=
  live s (match waitingCount s with
    | some (.countHold, ws) => runWork ws (expireHold s)
    | _ => s)

/-- WARMUP_COUNT_END (R186). -/
def execWarmupCountEnd (s : State) : Host.Outcome State Fault Refusal :=
  live s (match waitingCount s with
    | some (.countWarmup, ws) => runWork ws (enterRun s)
    | _ => s)

/-- FAULTED_COUNTDOWN_END (R145). -/
def execFaultedCountdownEnd (s : State) : Host.Outcome State Fault Refusal :=
  live s (match waitingCount s with
    | some (.countFaulted, ws) => runWork ws (changeSegment .waiting { s with countdown := 0, contention := 0 })
    | _ => s)

/-! ## The store write (11.3) -/

/-- CHECK_VALUE_ERASED (R191): the write erases the stored check value. -/
def execCheckValueErased (s : State) : Host.Outcome State Fault Refusal :=
  live s (match s.save with
    | some v =>
      if v.phase = .accepted then
        { s with store := { s.store with check := none }, save := some { v with phase := .erased } }
      else s
    | none => s)

/-- CHECK_VALUE_WRITTEN (R191): the image is the snapshot, and its check value is written. -/
def execCheckValueWritten (s : State) : Host.Outcome State Fault Refusal :=
  live s (match s.save with
    | some v =>
      if v.phase = .erased then
        let image := encodeTables v.snapshot
        { s with store := { image := image, check := some (crc image) }, save := some { v with phase := .written } }
      else s
    | none => s)

/-- One cell of the store found at another value: a byte of the image, or the high or low byte of the check value after
it. -/
def changeCell (st : Store) (cell : Nat × Byte) : Store :=
  let n := st.image.length
  if cell.1 < n then { st with image := st.image.set cell.1 cell.2 }
  else
    match st.check with
    | some c =>
      if cell.1 = n then { st with check := some (joinBytes cell.2 (c.extractLsb' 0 8)) }
      else if cell.1 = n + 1 then { st with check := some (joinBytes (c.extractLsb' 8 8) cell.2) }
      else st
    | none => st

/-- R191: the image and check value read back agree with the snapshot and its CRC. -/
def readBackAgrees (ts : Tables) (st : Store) : Bool :=
  st.image == encodeTables ts && st.check == some (crc (encodeTables ts))

/-- R191: the SAVE completes over the store as it is read back. -/
def completeSave (v : Save) (st : Store) (s : State) : State :=
  let ok := readBackAgrees v.snapshot st
  let t := post (if ok then .saveDone else .saveFailed) 0 0 { s with store := st, storeValid := ok }
  judgeHealthy { t with save := none }

/-- SAVE_COMPLETION (R191): the read-back ends; `cells` are the cells found at another value than was written. -/
def execSaveCompletion (cells : List (Nat × Byte)) (s : State) : Host.Outcome State Fault Refusal :=
  live s (match s.save with
    | some v => if v.phase = .written then completeSave v (cells.foldl changeCell s.store) s else s
    | none => s)

end Sys2Proof.Machine
end

