-- ==== Sys2Proof/Machine/TrunkCommands.lean ====
section
/-! DEFINITION. The trunk port's own commands and the reads (10.1, 10.2). -/

namespace Sys2Proof.Machine

/-- TRUNK_FRAME_DROPPED (R168, R169): the characters received are no request (`hears`), or come in a framing error; no
reply, nothing changed. -/
def execTrunkFrameDropped (s : State) : Host.Outcome State Fault Refusal := .next s

/-- The request codes of the catalog (R181). -/
def catalogCodes : List Byte :=
  [0x40, 0x41, 0x42, 0x43, 0x44, 0x45, 0x46, 0x50, 0x51, 0x52, 0x53, 0x58, 0x59, 0x5A, 0x60, 0x61, 0x62, 0x63, 0x68, 0x70,
    0x71]

/-- R170 stage 1: a frame taken whose code is in no row of the catalog. A frame whose code is in the catalog is another
row's (log 22). -/
def answerUnknown (chars : List Byte) (s : State) : State :=
  match hears s chars with
  | some f => if f.kind ∈ catalogCodes then s else answerFrame f false (answerOnly .badRequest s)
  | none => s

/-- UNKNOWN_REQUEST (R170 stage 1). -/
def execUnknownRequest (dst src : Byte) (chars : List Byte) (s : State) : Host.Outcome State Fault Refusal :=
  .next (answerUnknown (dst :: src :: chars) s)

/-- REPLY_SENT (R169): the port returns to LISTENING, and reads the straps after a RESTART (R168, R189). -/
def execReplySent (straps : BitVec 7) (rate : Bool) (s : State) : Host.Outcome State Fault Refusal :=
  live s (match s.trunkPort with
    | .answering _ true => readStraps straps rate s
    | .answering _ false => { s with trunkPort := .listening }
    | .listening => s)

/-- STATUS (R172). -/
def execStatus (dst : Byte) (chars : List Byte) (s : State) : Host.Outcome State Fault Refusal :=
  .next (answerRequest 0x40 (dst :: chars) (withoutData fun t => readOnly (statusData t) t) s)

/-- READ-CHANNEL (R38). -/
def execReadChannel (dst : Byte) (chars : List Byte) (s : State) : Host.Outcome State Fault Refusal :=
  .next (answerRequest 0x41 (dst :: chars) (withIndex 64 fun i t => readOnly (channelData t i) t) s)

/-- READ-ZONE (R67). -/
def execReadZone (dst : Byte) (chars : List Byte) (s : State) : Host.Outcome State Fault Refusal :=
  .next (answerRequest 0x42 (dst :: chars) (withIndex 16 fun z t => readOnly (zoneData t z) t) s)

/-- READ-GROUP (R102). -/
def execReadGroup (dst : Byte) (chars : List Byte) (s : State) : Host.Outcome State Fault Refusal :=
  .next (answerRequest 0x43 (dst :: chars) (withIndex 4 fun g t => readOnly (groupData t g) t) s)

/-- READ-FAN (R118). -/
def execReadFan (dst : Byte) (chars : List Byte) (s : State) : Host.Outcome State Fault Refusal :=
  .next (answerRequest 0x44 (dst :: chars) (withIndex 8 fun f t => readOnly (fanData t f) t) s)

/-- R151: the work of READ-NODE. -/
def readNodeWork (payload : List Byte) (s : State) : Answer :=
  match payload with
  | [a] => if 1 ≤ a.toNat ∧ a.toNat ≤ 126 then readOnly (nodeData s a.toNat) s else answerOnly .badIndex s
  | _ => answerOnly .badRequest s

/-- READ-NODE (R151). -/
def execReadNode (dst : Byte) (chars : List Byte) (s : State) : Host.Outcome State Fault Refusal :=
  .next (answerRequest 0x45 (dst :: chars) readNodeWork s)

/-- R173: the work of READ-TABLE. -/
def readTableWork (payload : List Byte) (s : State) : Answer :=
  match payload with
  | [t, start, n] =>
    match tableOfCode t.toNat with
    | some tb =>
      if 1 ≤ n.toNat ∧ n.toNat ≤ 8 then
        match readBlock s tb start.toNat n.toNat with
        | some es => readOnly (t :: start :: n :: es) s
        | none => answerOnly .badIndex s
      else answerOnly .badRequest s
    | none => answerOnly .badRequest s
  | _ => answerOnly .badRequest s

/-- READ-TABLE (R5, R173). -/
def execReadTable (dst : Byte) (chars : List Byte) (s : State) : Host.Outcome State Fault Refusal :=
  .next (answerRequest 0x46 (dst :: chars) readTableWork s)

end Sys2Proof.Machine
end

