-- ==== Sys2Proof/Machine/TableCommands.lean ====
section
/-! DEFINITION. The requests on the change list, the store and the mode (chapters 9 and 11). -/

namespace Sys2Proof.Machine

/-- Where a WRITE-TABLE block stopped (R156). -/
inductive Stopped where
  | whole | atEntry | listFull
deriving DecidableEq, Repr

/-- R156: the entries of a block taken one by one: the list they leave, how many were taken, and where the block
stopped. -/
def takeEntries (t : TableId) : Nat → List (List Byte) → List Change → List Change × Nat × Stopped
  | _, [], list => (list, 0, .whole)
  | index, e :: es, list =>
    match decodeChange t index e with
    | none => (list, 0, .atEntry)
    | some c =>
      if list.length < 32 then
        let r := takeEntries t (index + 1) es (list ++ [c])
        (r.1, r.2.1 + 1, r.2.2)
      else (list, 0, .listFull)

/-- R156: a request of the right form is appended entry by entry. -/
def appendBlock (t : TableId) (start n : Nat) (entries : List (List Byte)) (s : State) : Answer :=
  let r := takeEntries t start entries s.changes
  let u := { s with changes := r.1 }
  match r.2.2 with
  | .whole => { state := u, result := .done, data := [byteOf n] }
  | .atEntry => { state := u, result := .badIndex, data := [byteOf r.2.1, byteOf r.2.1] }
  | .listFull => { state := u, result := .partly, data := [byteOf r.2.1, byteOf (n - r.2.1)] }

/-- R156, R170: the work of WRITE-TABLE. -/
def writeTableWork (payload : List Byte) (s : State) : Answer :=
  match payload with
  | t :: start :: n :: body =>
    match tableOfCode t.toNat with
    | some tb =>
      let entries := pieces (entrySize tb) n.toNat body
      if 1 ≤ n.toNat ∧ n.toNat ≤ 8 ∧ body.length = n.toNat * entrySize tb ∧ entries.all (entryWellFormed tb) = true then
        if tb = .device ∧ s.mode ≠ .standby then answerOnly .notNow s
        else appendBlock tb start.toNat n.toNat entries s
      else answerOnly .badRequest s
    | none => answerOnly .badRequest s
  | _ => answerOnly .badRequest s

/-- WRITE-TABLE (R156). -/
def execWriteTable (dst : Byte) (chars : List Byte) (s : State) : Host.Outcome State Fault Refusal :=
  .next (answerRequest 0x50 (dst :: chars) writeTableWork s)

/-- R158: the work of HOLD. -/
def holdWork (payload : List Byte) (s : State) : Answer :=
  match payload with
  | [b] =>
    if b = 1 then answerOnly .done { s with hold := true, holdCount := 0 }
    else if b = 0 then answerOnly .done { s with hold := false, holdCount := 0 }
    else answerOnly .badRequest s
  | _ => answerOnly .badRequest s

/-- HOLD (R158). -/
def execHold (dst : Byte) (chars : List Byte) (s : State) : Host.Outcome State Fault Refusal :=
  .next (answerAndResume 0x51 (dst :: chars) holdWork s)

/-- R157: the work of DISCARD. -/
def discardWork (s : State) : Answer :=
  { state := { s with changes := [] }, result := .done, data := [byteOf s.changes.length] }

/-- DISCARD (R157). -/
def execDiscard (dst : Byte) (chars : List Byte) (s : State) : Host.Outcome State Fault Refusal :=
  .next (answerRequest 0x52 (dst :: chars) (withoutData discardWork) s)

/-- R191: the work of SAVE. -/
def saveWork (s : State) : Answer :=
  if s.save.isSome then answerOnly .busy s
  else answerOnly .done { s with save := some { snapshot := s.tables, phase := .accepted } }

/-- SAVE (R191). -/
def execSave (dst : Byte) (chars : List Byte) (s : State) : Host.Outcome State Fault Refusal :=
  .next (answerRequest 0x53 (dst :: chars) (withoutData saveWork) s)

/-- R185: the work of RUN. -/
def runRequestWork (s : State) : Answer := answerOnly .done (if s.mode = .standby then enterWarmup s else s)

/-- RUN (R185). -/
def execRun (dst : Byte) (chars : List Byte) (s : State) : Host.Outcome State Fault Refusal :=
  .next (answerRequest 0x58 (dst :: chars) (withoutData runRequestWork) s)

/-- R187: the work of STANDBY. -/
def standbyWork (s : State) : Answer := answerOnly .done (if s.mode = .standby then s else enterStandby s)

/-- STANDBY (R187). -/
def execStandby (dst : Byte) (chars : List Byte) (s : State) : Host.Outcome State Fault Refusal :=
  .next (answerRequest 0x59 (dst :: chars) (withoutData standbyWork) s)

/-- R189: the work of RESTART. -/
def restartWork (s : State) : Answer :=
  if s.save.isSome then answerOnly .busy s else answerOnly .done (restartRuntime s)

/-- R189: the request is carried out, so the straps are read when its reply has been sent. -/
def restartAccepted (payload : List Byte) (s : State) : Bool := payload.isEmpty && s.save.isNone

/-- RESTART (R189). -/
def execRestart (dst : Byte) (chars : List Byte) (s : State) : Host.Outcome State Fault Refusal :=
  .next (match takes s 0x5A (dst :: chars) with
    | some f => answerFrame f (restartAccepted f.payload s) (withoutData restartWork f.payload s)
    | none => s)

end Sys2Proof.Machine
end

