-- ==== Sys2Proof/Machine/OperationCommands.lean ====
section
/-! DEFINITION. The requests that operate the part: acknowledgement, overrides, FAN-RESET, events and transit (chapters 3
to 6, 10.3 and 11.4). -/

namespace Sys2Proof.Machine

/-- R53, R73: the work of ACKNOWLEDGE: one zone, or all zones for 0xFF. -/
def acknowledgeWork (payload : List Byte) (s : State) : Answer :=
  match payload with
  | [b] =>
    if b = 0xFF then answerOnly .done (judgeBeacon ((List.finRange 16).foldl acknowledgeZone s))
    else
      match finOf 16 b.toNat with
      | some z => answerOnly .done (judgeBeacon (acknowledgeZone s z))
      | none => answerOnly .badIndex s
  | _ => answerOnly .badRequest s

/-- ACKNOWLEDGE (R53, R73). -/
def execAcknowledge (dst : Byte) (chars : List Byte) (s : State) : Host.Outcome State Fault Refusal :=
  .next (answerRequest 0x60 (dst :: chars) acknowledgeWork s)

/-- R90: the stage a new context holds: the pushed one, the captured one, or 0. -/
def contextStage (k : OverrideKind) (pushed commanded : Nat) : Nat :=
  match k with
  | .force => pushed
  | .hold => commanded
  | .manual => 0

/-- R90: the work of PUSH-OVERRIDE. -/
def pushWork (payload : List Byte) (s : State) : Answer :=
  match payload with
  | [g, k, stage, e1, e0, t1, t0] =>
    match overrideOfCode k.toNat with
    | none => answerOnly .badRequest s
    | some kind =>
      if kind = .force ∧ 4 < stage.toNat then answerOnly .badRequest s
      else
        match finOf 4 g.toNat with
        | none => answerOnly .badIndex s
        | some g =>
          let r := s.groups[g]
          if 4 ≤ r.stack.length then answerOnly .full s
          else
            let c : Context := { kind := kind, stage := contextStage kind stage.toNat r.commanded,
                                 expiry := (joinBytes e1 e0).toNat, tag := joinBytes t1 t0 }
            { state := judgeVent (changeStack g (c :: r.stack) s), result := .done,
              data := [byteOf (r.stack.length + 1)] }
  | _ => answerOnly .badRequest s

/-- PUSH-OVERRIDE (R90). -/
def execPushOverride (dst : Byte) (chars : List Byte) (s : State) : Host.Outcome State Fault Refusal :=
  .next (answerAndResume 0x61 (dst :: chars) pushWork s)

/-- R91: the work of POP-OVERRIDE on a group. -/
def popWork (g : Fin 4) (s : State) : Answer :=
  match s.groups[g].stack with
  | [] => answerOnly .empty s
  | c :: cs => { state := judgeVent (changeStack g cs s), result := .done, data := contextData c }

/-- POP-OVERRIDE (R91). -/
def execPopOverride (dst : Byte) (chars : List Byte) (s : State) : Host.Outcome State Fault Refusal :=
  .next (answerAndResume 0x62 (dst :: chars) (withIndex 4 popWork) s)

/-- R113: the work of FAN-RESET on a fan. -/
def fanResetWork (f : Fin 8) (s : State) : Answer :=
  answerOnly .done
    (if s.fans[f].state = .failed then
      judgeFans (recomputeRunSet (fanGroup s f) (changeFan f { s.fans[f] with state := .off, reason := .none } s))
    else s)

/-- FAN-RESET (R113). -/
def execFanReset (dst : Byte) (chars : List Byte) (s : State) : Host.Outcome State Fault Refusal :=
  .next (answerAndResume 0x63 (dst :: chars) (withIndex 8 fanResetWork) s)

/-- R193: the work of FETCH-EVENTS. -/
def fetchWork (s : State) : Answer :=
  let k := min 8 s.events.length
  { state := { s with events := s.events.drop 8, lost := 0 }, result := .done,
    data := byteOf k :: byteOf s.lost :: (s.events.take 8).flatMap eventBytes }

/-- FETCH-EVENTS (R193). -/
def execFetchEvents (dst : Byte) (chars : List Byte) (s : State) : Host.Outcome State Fault Refusal :=
  .next (answerRequest 0x68 (dst :: chars) (withoutData fetchWork) s)

/-- R175: the payload is of the kind's form. -/
def passForm (k : FrameKind) (bs : List Byte) : Bool :=
  match k, bs with
  | .query, [_] => true
  | .drive, [setpoint, _] => decide (setpoint.toNat ≤ 100)
  | .config, bs => decide (1 ≤ bs.length ∧ bs.length ≤ 56)
  | _, _ => false

/-- R175: the work of PASS. -/
def passWork (payload : List Byte) (s : State) : Answer :=
  match payload with
  | dest :: k :: bs =>
    match frameKindOfCode k.toNat with
    | none => answerOnly .badRequest s
    | some kind =>
      if ¬ (1 ≤ dest.toNat ∧ dest.toNat ≤ 126) ∨ passForm kind bs = false then answerOnly .badRequest s
      else if s.mode = .standby then answerOnly .notNow s
      else if 4 ≤ s.transits.length then answerOnly .full s
      else if permitted s kind dest.toNat then
        let e : TransitEntry := { sequence := s.transitCount, dest := dest.toNat, kind := kind, payload := bs,
                                  state := .waiting, reading := [] }
        { state := { s with transits := s.transits ++ [e], transitCount := s.transitCount + 1 }, result := .done,
          data := [s.transitCount, byteOf (s.transits.length + 1)] }
      else answerOnly .denied s
  | _ => answerOnly .badRequest s

/-- PASS (R175). -/
def execPass (dst : Byte) (chars : List Byte) (s : State) : Host.Outcome State Fault Refusal :=
  .next (answerRequest 0x70 (dst :: chars) passWork s)

/-- R178: the work of COLLECT. -/
def collectWork (s : State) : Answer :=
  match s.transits with
  | [] => answerOnly .empty s
  | e :: es =>
    match e.state with
    | .done r =>
      { state := { s with transits := es }, result := .done,
        data := [e.sequence, byteOf e.dest, byteOf e.kind.code, byteOf r.code] ++
          (if r = .reply then e.reading else []) }
    | _ => answerOnly .notReady s

/-- COLLECT (R178). -/
def execCollect (dst : Byte) (chars : List Byte) (s : State) : Host.Outcome State Fault Refusal :=
  .next (answerRequest 0x71 (dst :: chars) (withoutData collectWork) s)

end Sys2Proof.Machine
end

