-- ==== Sys2Proof/Machine/Dispatch.lean ====
section
/-! DEFINITION. One arm for each command: the direct call of its meaning. -/

namespace Sys2Proof.Machine

/-- The effect of a command on everything but the queue. -/
def exec (i : Instr) (s : State) : Host.Outcome State Fault Refusal :=
  match i with
  | .resetAsserted => Sys2Proof.Machine.execResetAsserted s
  | .deviceReset straps rate => Sys2Proof.Machine.execDeviceReset straps rate s
  | .cycleTick => Sys2Proof.Machine.execCycleTick s
  | .deferredTick => Sys2Proof.Machine.execDeferredTick s
  | .frameTransmitted => Sys2Proof.Machine.execFrameTransmitted s
  | .contentionMismatch => Sys2Proof.Machine.execContentionMismatch s
  | .fieldReceptionEnd chars => Sys2Proof.Machine.execFieldReceptionEnd chars s
  | .framingError => Sys2Proof.Machine.execFramingError s
  | .replyTimeout => Sys2Proof.Machine.execReplyTimeout s
  | .nextAttempt => Sys2Proof.Machine.execNextAttempt s
  | .overrideExpired => Sys2Proof.Machine.execOverrideExpired s
  | .proofTimeout => Sys2Proof.Machine.execProofTimeout s
  | .holdExpired => Sys2Proof.Machine.execHoldExpired s
  | .warmupCountEnd => Sys2Proof.Machine.execWarmupCountEnd s
  | .faultedCountdownEnd => Sys2Proof.Machine.execFaultedCountdownEnd s
  | .serviceReleaseAsserted => Sys2Proof.Machine.execServiceReleaseAsserted s
  | .serviceReleaseDeasserted => Sys2Proof.Machine.execServiceReleaseDeasserted s
  | .saveCompletion cells => Sys2Proof.Machine.execSaveCompletion cells s
  | .trunkFrameDropped => Sys2Proof.Machine.execTrunkFrameDropped s
  | .unknownRequest dst src chars => Sys2Proof.Machine.execUnknownRequest dst src chars s
  | .replySent straps rate => Sys2Proof.Machine.execReplySent straps rate s
  | .status dst chars => Sys2Proof.Machine.execStatus dst chars s
  | .readChannel dst chars => Sys2Proof.Machine.execReadChannel dst chars s
  | .readZone dst chars => Sys2Proof.Machine.execReadZone dst chars s
  | .readGroup dst chars => Sys2Proof.Machine.execReadGroup dst chars s
  | .readFan dst chars => Sys2Proof.Machine.execReadFan dst chars s
  | .readNode dst chars => Sys2Proof.Machine.execReadNode dst chars s
  | .readTable dst chars => Sys2Proof.Machine.execReadTable dst chars s
  | .writeTable dst chars => Sys2Proof.Machine.execWriteTable dst chars s
  | .hold dst chars => Sys2Proof.Machine.execHold dst chars s
  | .discard dst chars => Sys2Proof.Machine.execDiscard dst chars s
  | .save dst chars => Sys2Proof.Machine.execSave dst chars s
  | .run dst chars => Sys2Proof.Machine.execRun dst chars s
  | .standby dst chars => Sys2Proof.Machine.execStandby dst chars s
  | .restart dst chars => Sys2Proof.Machine.execRestart dst chars s
  | .acknowledge dst chars => Sys2Proof.Machine.execAcknowledge dst chars s
  | .pushOverride dst chars => Sys2Proof.Machine.execPushOverride dst chars s
  | .popOverride dst chars => Sys2Proof.Machine.execPopOverride dst chars s
  | .fanReset dst chars => Sys2Proof.Machine.execFanReset dst chars s
  | .fetchEvents dst chars => Sys2Proof.Machine.execFetchEvents dst chars s
  | .pass dst chars => Sys2Proof.Machine.execPass dst chars s
  | .collect dst chars => Sys2Proof.Machine.execCollect dst chars s
  | .openingMarkReceived => Sys2Proof.Machine.execOpeningMarkReceived s
  | .checkValueErased => Sys2Proof.Machine.execCheckValueErased s
  | .checkValueWritten => Sys2Proof.Machine.execCheckValueWritten s

end Sys2Proof.Machine
end

