-- ==== Sys2Proof/Safety.lean ====
section
/-! DEFINITION. The laws of the manual, as predicates on a state: what counts as a safe state of the part. -/

namespace Sys2Proof.Machine

/-! ## Taking and answering a request -/

/-- R168, R169: the part can take a request: no reset lasts, the port is LISTENING, and the straps gave an address other
than 0 and 127. -/
def State.Listening (s : State) : Prop :=
  s.inReset = false ∧ s.trunkPort = .listening ∧ s.trunkAddress ≠ 0 ∧ s.trunkAddress ≠ 127

/-- R168, R179: the destination of a frame sent to the part. -/
def State.station (s : State) : Byte := s.trunkAddress.setWidth 8

/-- R168, R179: the characters, after the opening mark and the destination, of a request frame for the part with a code, a
source and a payload. -/
def State.asked (s : State) (code src : Byte) (payload : List Byte) : List Byte :=
  (markedChars { dst := s.station, src := src, kind := code, payload := payload }).tail

/-- R168, R169: the part can take a request, and the characters received are its frame. -/
def State.Takes (s : State) (code src : Byte) (payload chars : List Byte) : Prop :=
  s.Listening ∧
    receive trunkLimit chars =
      .frame { dst := s.trunkAddress.setWidth 8, src := src, kind := code, payload := payload }

/-- R169 to R171: the state after a request's work has left `t`: the port sends the reply frame to the request's source,
with the result, the attention byte as `t` gives it, and the data. -/
def answered (code src : Byte) (r : Result) (data : List Byte) (t : State) : State :=
  { t with
    trunkPort :=
      .answering
        { dst := src, src := t.trunkAddress.setWidth 8, kind := code, payload := byteOf r.code :: attention t :: data }
        false }

/-- Every command but those of the reset and of the release line: none of them acts while a reset lasts (R188, log 25). -/
def silencedByReset : Instr → Bool
  | .resetAsserted => false
  | .deviceReset _ _ => false
  | .serviceReleaseAsserted => false
  | .serviceReleaseDeasserted => false
  | _ => true

/-! ## What a rule asks of the state a command leaves -/

/-- R192: from `s` to `t` an event was posted: the queue holds it, or the lost count rose or stood at its limit. -/
def Posted (s t : State) (k : EventKind) (subject : Nat) (detail : Half) : Prop :=
  (∃ e ∈ t.events, e.kind = k ∧ e.subject = byteOf subject ∧ e.detail = detail) ∨ s.lost < t.lost ∨ 255 ≤ t.lost

/-- R115: each fan whose state differs between `s` and `t` posted FAN_STATE. -/
def FansPosted (s t : State) : Prop :=
  ∀ f : Fin 8, t.fans[f].state ≠ s.fans[f].state →
    Posted s t .fanState f.val (detailOf (t.fans[f].state.code + 16 * s.fans[f].state.code) t.fans[f].reason.code)

/-- R108: the speed table's entry of a fan's group for the group's commanded stage, and 0 at stage 0. -/
def stageSpeed (s : State) (f : Fin 8) : Nat :=
  let g := s.tables.fans[f].group
  if s.groups[g].commanded = 0 then 0 else s.tables.groups[g].speed.toList.getD (s.groups[g].commanded - 1) 0

/-- R110: the record of a fan as it enters STARTING, or RUNNING at once when it has no airflow slot. -/
def startedFan (s : State) (f : Fin 8) : FanRecord :=
  let slotless : Prop := s.tables.fans[f].airflowSlot = none
  { s.fans[f] with
    state := if slotless then .running else .starting
    timer := if slotless then 0 else s.tables.groups[s.tables.fans[f].group].proofTimeout
    streak := 0, setpoint := stageSpeed s f, fresh := true }

/-- R106, R112, R114: a fan record in OFF, FAILED or MANUAL, its proof timer, streak and setpoint 0 and its reason kept. -/
def restingFan (st : FanState) (r : FanRecord) : FanRecord := { r with state := st, timer := 0, streak := 0, setpoint := 0 }

/-- R93: the three conditions of the hand-over flag. -/
def HandOverHolds (mode : Mode) (r : GroupRecord) : Prop :=
  mode ≠ .standby ∧ (∃ c cs, r.stack = c :: cs ∧ c.kind = .manual) ∧ r.floor = 0

/-- R94, R95, R114: the record of fan `f` once the hand-over of its group was judged between `s` and `t`. When the flag was set, an
enabled fan is MANUAL; when it was cleared, a MANUAL fan is FAILED, started or OFF by its reason, the run set of `s` and the
commanded stage of `t`; no other fan changes. -/
def handedFan (s t : State) (f : Fin 8) : FanRecord :=
  let g := s.tables.fans[f].group
  if t.groups[g].handOver = true ∧ s.groups[g].handOver = false ∧ s.tables.fans[f].enabled = true ∧
      s.fans[f].state ≠ .manual then restingFan .manual s.fans[f]
  else if t.groups[g].handOver = false ∧ s.groups[g].handOver = true ∧ s.fans[f].state = .manual then
    if s.fans[f].reason ≠ .none then restingFan .failed s.fans[f]
    else if f ∈ s.groups[g].runSet ∧ 0 < t.groups[g].commanded then startedFan { s with groups := t.groups } f
    else restingFan .off s.fans[f]
  else s.fans[f]

/-- R93 to R95, R114, R115: between `s` and `t` the hand-over of group `g` was judged: the flag is what R93 gives, the group's fans
are as the judgement leaves them, and no other fan changes. That each posts one FAN_STATE, also a fan without an airflow slot that
goes from MANUAL to RUNNING, is for that fan the model's choice (log 41). -/
def HandOverJudged (s t : State) (g : Fin 4) : Prop :=
  (t.groups[g].handOver = true ↔ HandOverHolds t.mode t.groups[g]) ∧ FansPosted s t ∧
  ∀ f : Fin 8, t.fans[f] = if s.tables.fans[f].group = g then handedFan s t f else s.fans[f]

/-- R142, R145, R86, R109, R158, R186: from `u` a survey completes to `t`; `empty` for the completion of an empty cycle. The cycle is
counted, and the completion's work is begun, in the rules' order where they give one: aging, every enabled zone, the end of the
pass, each group's step, the counts (the FAULTED countdown in an empty cycle of a FAULTED segment), the close. The orders within
zones, groups and counts are open (log 4), and the counts after the group steps are log 14. The work is done up to its end, or up
to the first piece that brings a count to its end: there it waits for that count's command, the model's reading (log 1). -/
def SurveyCompletes (empty : Bool) (u t : State) : Prop :=
  ∃ (zs : List (Fin 16)) (gs : List (Fin 4)) (cs : List Work) (d : Nat),
    zs.Perm ((List.finRange 16).filter fun z => u.tables.zones[z].enabled) ∧ gs.Perm (List.finRange 4) ∧
    cs.Perm ((if u.hold then [.countHold] else []) ++ (if u.mode = .warmup then [.countWarmup] else []) ++
      (if empty ∧ u.segment = .faulted then [.countFaulted] else [])) ∧
    t = runWork
      ([.age] ++ zs.map .evaluate ++ [.endPass] ++
        (gs.flatMap fun g =>
          [.stepBegins g, .countExpiry g, .stageUpdate g, .startsStops g, .supervise g, .setpoints g]) ++
        cs ++ [.close])
      { u with cycleCount := u.cycleCount + 1, draws := d }

/-! ## Sizes -/

/-- R192: the event queue's size, repeat counts and lost count. -/
def EventsLaw (s : State) : Prop :=
  s.events.length ≤ 48 ∧ (∀ e ∈ s.events, 1 ≤ e.repeats ∧ e.repeats ≤ 15) ∧ s.lost ≤ 255

/-- R155, R89, R174: the pending-change list, the override stacks and the transit queue. -/
def SizesLaw (s : State) : Prop :=
  s.changes.length ≤ 32 ∧ (∀ g : Fin 4, s.groups[g].stack.length ≤ 4) ∧ s.transits.length ≤ 4

/-- R20, R21: every channel's filtered and conditioned values lie within 0..1000. -/
def FilteredLaw (s : State) : Prop :=
  ∀ i : Fin 64, s.channels[i].filtered ≤ 1000 ∧ s.channels[i].conditioned ≤ 1000

/-! ## Tables -/

/-- R1, R153, R154: every field of every entry lies within its range. -/
def Tables.InRange (ts : Tables) : Prop :=
  (∀ i : Fin 64, ts.bindings[i].inRange = true) ∧ (∀ z : Fin 16, ts.zones[z].inRange = true) ∧
    (∀ g : Fin 4, ts.groups[g].inRange = true) ∧ (∀ f : Fin 8, ts.fans[f].inRange = true) ∧ ts.device.inRange = true

/-- R155: every field of a change record's entry lies within its range. -/
def Change.InRange : Change → Prop
  | .binding _ e => e.inRange = true
  | .zone _ e => e.inRange = true
  | .group _ e => e.inRange = true
  | .fan _ e => e.inRange = true
  | .device e => e.inRange = true

/-- R156, R182: the bytes of a change record's content in a WRITE-TABLE payload. -/
def Change.bytes : Change → List Byte
  | .binding _ e => encodeBinding e
  | .zone _ e => encodeZone e
  | .group _ e => encodeGroup e
  | .fan _ e => encodeFan e
  | .device e => encodeDevice e

/-- R1, R152 to R155: every active entry and every change record has its fields within their ranges. -/
def RangesLaw (s : State) : Prop := s.tables.InRange ∧ ∀ c ∈ s.changes, c.InRange

/-- R3: keys are unique among valid slots, and the chain of each bucket holds exactly the valid slots whose key falls in
it, each once, at most 8 of them. -/
def KeysLaw (s : State) : Prop :=
  (∀ i j : Fin 64, s.tables.bindings[i].valid = true → s.tables.bindings[j].valid = true →
    s.tables.bindings[i].node = s.tables.bindings[j].node → s.tables.bindings[i].point = s.tables.bindings[j].point →
    i = j) ∧
  ∀ b : Fin 16, s.chains[b].length ≤ 8 ∧ s.chains[b].Nodup ∧
    ∀ i : Fin 64, i ∈ s.chains[b] ↔
      s.tables.bindings[i].valid = true ∧ (s.tables.bindings[i].node + 7 * s.tables.bindings[i].point.val) % 16 = b.val

/-- R131: the poll list holds each address once, in ascending order, and exactly the addresses of a valid binding or of
an enabled fan's drive. -/
def PollLaw (s : State) : Prop :=
  (s.pollList.map (·.address)).Pairwise (· < ·) ∧
  ∀ a : Nat, (∃ e ∈ s.pollList, e.address = a) ↔
    (∃ i : Fin 64, s.tables.bindings[i].valid = true ∧ s.tables.bindings[i].node = a) ∨
    (∃ f : Fin 8, s.tables.fans[f].enabled = true ∧ s.tables.fans[f].driveNode = a)

/-! ## Outputs and stages -/

/-- R122: CHARGE_PERMIT is de-energized in every state in which the mode is not RUN or any zone is in ALERT, ALARM or
FAULT. -/
def ChargeLaw (s : State) : Prop :=
  (s.mode ≠ .run ∨ ∃ z : Fin 16, s.zones[z].gas = .alert ∨ s.zones[z].gas = .alarm ∨ s.zones[z].gas = .fault) →
    s.outputs.chargePermit = false

/-- R122, R123, R126, R127: outside RUN the three outputs with a mode term are de-energized. -/
def ModeOutputsLaw (s : State) : Prop :=
  s.mode ≠ .run →
    s.outputs.chargePermit = false ∧ s.outputs.ventProven = false ∧ s.outputs.healthy = false

/-- R83: the group record holds the demand, floor and effective stage its inputs give. -/
def FreshStages (s : State) : Prop :=
  ∀ g : Fin 4, s.groups[g].demand = demandOf s g ∧ s.groups[g].floor = floorOf s g ∧
    s.groups[g].effective = effectiveOf s.mode s.groups[g]

/-- R85: in WARMUP and RUN every commanded stage is at least its floor and at most 4; in STANDBY every one is 0. -/
def CommandedLaw (s : State) : Prop :=
  ∀ g : Fin 4, if s.mode = .standby then s.groups[g].commanded = 0
    else s.groups[g].floor ≤ s.groups[g].commanded ∧ s.groups[g].commanded ≤ 4

/-- R89: every context's stage is at most 4. -/
def ContextsLaw (s : State) : Prop := ∀ g : Fin 4, ∀ c ∈ s.groups[g].stack, c.stage ≤ 4

/-- R83 to R85, R89: what the staging of the groups rests on, with the ranges of the stage maps. -/
def StagingLaw (s : State) : Prop := RangesLaw s ∧ ContextsLaw s ∧ FreshStages s ∧ CommandedLaw s

/-- R93: the hand-over flag is set exactly while the mode is WARMUP or RUN, MANUAL is on top and the floor is 0. -/
def HandOverLaw (s : State) : Prop :=
  ∀ g : Fin 4, s.groups[g].handOver = true ↔
    s.mode ≠ .standby ∧ (∃ c cs, s.groups[g].stack = c :: cs ∧ c.kind = .manual) ∧ s.groups[g].floor = 0

/-- R104, R108: only a STARTING fan has a proof timer, only a RUNNING fan a low-flow streak, and only a fan in either state
a setpoint. -/
def SetpointLaw (s : State) : Prop :=
  ∀ f : Fin 8, (s.fans[f].state ≠ .starting → s.fans[f].timer = 0) ∧ (s.fans[f].state ≠ .running → s.fans[f].streak = 0) ∧
    (s.fans[f].state.active = false → s.fans[f].setpoint = 0)

/-! ## STANDBY -/

/-- R184, R149, R66, R76, R99, R117, R127: in STANDBY the segment is IDLE with no transaction and no tick, no completion
is under way, every zone is INACTIVE and DRY with its record cleared, every stage is 0, no fan runs, and every output is
de-energized. -/
def StandbyLaw (s : State) : Prop :=
  s.mode = .standby →
    s.segment = .idle ∧ s.transaction = none ∧ s.timerOn = false ∧ s.deferredTick = false ∧ s.work = [] ∧
      s.warmupLeft = 0 ∧ (∀ z : Fin 16, s.zones[z] = ZoneRecord.cleared .inactive) ∧
      (∀ g : Fin 4, s.groups[g].demand = 0 ∧ s.groups[g].floor = 0 ∧ s.groups[g].effective = 0 ∧
        s.groups[g].commanded = 0 ∧ s.groups[g].handOver = false) ∧
      (∀ f : Fin 8, s.fans[f].state = .off ∨ s.fans[f].state = .failed) ∧ s.outputs = Outputs.off

/-! ## Run sets -/

/-- R105: a run set holds no fan twice, no disabled fan, no fan of another group, no failed fan and none in FAILED, and no
more fans than the run count; a fan in FAILED has a failure reason (R104). -/
def RunSetLaw (s : State) : Prop :=
  (∀ f : Fin 8, s.fans[f].state = .failed → s.fans[f].reason ≠ .none) ∧
  ∀ g : Fin 4, s.groups[g].runSet.Nodup ∧ s.groups[g].runSet.length ≤ s.tables.groups[g].runCount ∧
    ∀ f ∈ s.groups[g].runSet, s.tables.fans[f].enabled = true ∧ s.tables.fans[f].group = g ∧
      s.fans[f].reason = .none ∧ s.fans[f].state ≠ .failed

/-! ## Completions -/

/-- R142, log 1: a completion whose work is left waits for the end of a count, with no transaction in flight and transit
dispatch the last piece of its work; and a transaction is in flight on a POLLING or TRANSIT segment only (R135). -/
def CompletionLaw (s : State) : Prop :=
  (s.transaction ≠ none → s.work = [] ∧ (s.segment = .polling ∨ s.segment = .transit)) ∧
  Work.close ∉ s.work.dropLast ∧ ∀ w ws, s.work = w :: ws → endsCount s w = true

end Sys2Proof.Machine
end

