-- ==== Sys2Proof/Certificates/Slice0/Obligations.lean ====
section
/-! DEFINITION. The statements for the provers. Unless a docstring says otherwise a statement holds for every state, reached or
not. A request is given by the characters of its frame, destination first (State.station and State.asked; or State.Takes, for
any characters received as it), the port's readiness is spelled out as State.Listening, and a reply as `answered`
(Sys2Proof/Safety.lean). Where a statement mentions `runWork ws u`, the command's own effect is `u`, and the rest of the survey
completion goes on from there. -/

open Sys2Proof Sys2Proof.Machine

/-! ## The block as a machine -/

/-- The block's step: the command at the front of the queue acts on the state with the queue's rest. -/
def Obligations.StepRunsTheFrontCommand : Prop :=
  ∀ (s : State) (c : Instr) (cs : List Instr), s.pending = c :: cs → step s = exec c { s with pending := cs }

/-- Every command answers a next state in every state, and leaves the queue of waiting commands alone. That a command answers
one where its event cannot come, and while a reset lasts, changing nothing, is the model's choice (log 2, log 25). -/
def Obligations.EveryCommandCompletesAndKeepsTheQueue : Prop :=
  ∀ (c : Instr) (s : State), ∃ t, exec c s = .next t ∧ t.pending = s.pending

/-- The values the manual gives after a device reset that finds the store invalid: 11.2 with R4, R37, R66, R76, R101, R117,
R127, R150, R152, R167, R174, R188. The strap levels, the release line, the store's cells and the model's own fields are the
model's choices (log 5 to 8) and no part of this statement. -/
def Obligations.ResetStateAsTheManualGivesIt : Prop :=
  let s := State.reset
  s.mode = .standby ∧ s.warmupLeft = 0 ∧ s.tables = Tables.default ∧ (∀ b : Fin 16, s.chains[b] = []) ∧
  (∀ i : Fin 64, s.channels[i] = ChannelRecord.restarted .disabled) ∧
  (∀ z : Fin 16, s.zones[z] = ZoneRecord.cleared .inactive) ∧ (∀ g : Fin 4, s.groups[g] = GroupRecord.cleared) ∧
  (∀ f : Fin 8, s.fans[f] = FanRecord.cleared) ∧ s.outputs = Outputs.off ∧ s.segment = .idle ∧ s.timerOn = false ∧
  s.deferredTick = false ∧ s.cycleCount = 0 ∧ s.contention = 0 ∧ s.countdown = 0 ∧ s.transaction = none ∧
  s.pollList = [] ∧ s.changes = [] ∧ s.hold = false ∧ s.holdCount = 0 ∧ s.transits = [] ∧ s.transitCount = 0 ∧
  s.trunkPort = .listening ∧ s.storeValid = false ∧ s.save = none ∧
  s.events = [{ kind := .started, subject := 0, detail := 0, stamp := 0, repeats := 1 }] ∧ s.lost = 0

/-- Every law that a step keeps holds right after reset. -/
def Obligations.LawsHoldAtReset : Prop :=
  EventsLaw State.reset ∧ SizesLaw State.reset ∧ FilteredLaw State.reset ∧ ChargeLaw State.reset ∧
  ModeOutputsLaw State.reset ∧ StagingLaw State.reset ∧ HandOverLaw State.reset ∧ KeysLaw State.reset ∧
  PollLaw State.reset ∧ StandbyLaw State.reset ∧ SetpointLaw State.reset ∧ RunSetLaw State.reset ∧
  CompletionLaw State.reset

/-! ## Reset -/

/-- R188 (a part): a reset asserted de-energizes the relays and abandons a SAVE, and no command but the reset's own and the
release line's level has any effect while it lasts (that events other than frames are without effect then is the model's
choice, log 25). -/
def Obligations.ResetAssertedHoldsThePart : Prop :=
  (∀ s : State, exec .resetAsserted s =
    .next { s with
      inReset := true, save := none,
      outputs := { chargePermit := false, ventProven := false, beacon := false, healthy := false } }) ∧
  ∀ (c : Instr) (s : State), s.inReset = true → silencedByReset c = true → exec c s = .next s

/-- R188, R190 (parts): a device reset whose store has no check value, or one that is not the image's CRC, leaves the reset
state, with the straps as read; the store and the release line stay as they are. -/
def Obligations.DeviceResetWithAFailingStore : Prop :=
  ∀ (s : State) (straps : BitVec 7) (rate : Bool),
    (s.store.check = none ∨ ∃ c, s.store.check = some c ∧ c ≠ crc s.store.image) →
    exec (.deviceReset straps rate) s =
      .next { State.reset with
        pending := s.pending, draws := s.draws, trunkAddress := straps, trunkRate := rate,
        releaseLine := s.releaseLine, store := s.store }

/-- R188, R190, R4, R37, R101, R117, R131, R150 (parts): a device reset loads the five tables from an image with its check
value, links each bucket's valid slots in ascending order, and restarts the part: channels UNSEEN or DISABLED, each group's
run set and condition computed from the tables, every listed node UNKNOWN with its counts 0, and every other record, list
and count as in the reset state, with one STARTED event. The queue and the count of drawn orders are the model's own. -/
def Obligations.DeviceResetLoadsTheStoredTables : Prop :=
  ∀ (s : State) (straps : BitVec 7) (rate : Bool) (ts : Tables), ts.InRange →
    s.store.image = encodeTables ts → s.store.check = some (crc s.store.image) →
    ∃ t, exec (.deviceReset straps rate) s = .next t ∧
      t = { State.reset with
        pending := s.pending, draws := s.draws, trunkAddress := straps, trunkRate := rate, releaseLine := s.releaseLine
        store := s.store, storeValid := true, tables := ts, chains := t.chains, channels := t.channels, groups := t.groups
        pollList := t.pollList
        events := [{ kind := .started, subject := 0, detail := 1, stamp := 0, repeats := 1 }] } ∧
      (∀ b : Fin 16, t.chains[b] = (List.finRange 64).filter fun i =>
        ts.bindings[i].valid && decide ((ts.bindings[i].node + 7 * ts.bindings[i].point.val) % 16 = b.val)) ∧
      (∀ i : Fin 64, t.channels[i] =
        ChannelRecord.restarted (if ts.bindings[i].valid then .unseen else .disabled)) ∧
      (∀ g : Fin 4,
        let eligible : List (Fin 8) := (List.finRange 4).flatMap fun o => (List.finRange 8).filter fun f =>
          ts.fans[f].enabled && ts.fans[f].group == g && ts.fans[f].order == o
        t.groups[g] = { GroupRecord.cleared with
          runSet := eligible.take ts.groups[g].runCount
          condition := if eligible = [] then .disabled
            else if eligible.length < ts.groups[g].runCount then .degraded else .full }) ∧
      PollLaw t ∧
      ∀ e ∈ t.pollList, e.state = .unknown ∧ e.miss = 0 ∧ e.errors = 0 ∧
        (∀ p : Fin 8, e.mask.getLsbD p.val = true ↔
          ∃ i : Fin 64, ts.bindings[i].valid = true ∧ ts.bindings[i].node = e.address ∧ ts.bindings[i].point = p) ∧
        (e.fan = none ↔ ∀ f : Fin 8, ts.fans[f].enabled = true → ts.fans[f].driveNode ≠ e.address) ∧
        ∀ f, e.fan = some f → ts.fans[f].enabled = true ∧ ts.fans[f].driveNode = e.address

/-! ## Formats -/

/-- R182, R180, R179: the layout of an entry of each table, byte by byte, a number of two bytes high byte first and a signed one in
two's complement; and decoding the layout of an entry whose fields are within their ranges gives the entry, for all five tables. -/
def Obligations.EntryLayoutsDecodeToTheirEntries : Prop :=
  let b (n : Nat) : Byte := BitVec.ofNat 8 n
  let bit (flag : Bool) (n : Nat) : Nat := if flag then 2 ^ n else 0
  (∀ e : Binding,
    let kind : Nat := match e.kind with | .hydrogen => 0 | .leak => 1 | .airflow => 2 | .contact => 3
    let role : Nat := match e.role with | .purge => 0 | .equalize => 1
    let offset : Nat := (e.zeroOffset % 65536).toNat
    encodeBinding e =
      [b (bit e.valid 0 + 2 * kind + 8 * role), b e.node, b e.point.val, b e.zone.val, b (offset / 256), b offset,
        b (e.span / 256), b e.span, b e.shift, b (e.wetLevel / 256), b e.wetLevel] ∧
    (e.inRange = true → decodeBinding (encodeBinding e) = some e)) ∧
  (∀ e : ZoneEntry,
    let mask : Nat := bit e.groupMask[0] 4 + bit e.groupMask[1] 5 + bit e.groupMask[2] 6 + bit e.groupMask[3] 7
    encodeZone e =
      [b (bit e.enabled 0 + bit e.latch 1 + mask), b (e.watch / 256), b e.watch, b (e.alert / 256), b e.alert,
        b (e.alarm / 256), b e.alarm, b e.hysteresis, b (e.vote + 16 * e.rateWindow), b (e.rateThreshold / 256),
        b e.rateThreshold, b (e.staleLimit + 16 * e.settleCount), b e.spillHysteresis] ∧
    (e.inRange = true → decodeZone (encodeZone e) = some e)) ∧
  (∀ e : GroupEntry,
    let m := e.stageMap
    encodeGroup e =
      [b e.speed[0], b e.speed[1], b e.speed[2], b e.speed[3], b e.runCount, b (16 * m.base + m.watch),
        b (16 * m.alert + m.alarm), b (16 * m.fault + m.rising), b (16 * m.spill + m.purge),
        b (16 * m.equalize + m.warmup), b (e.runOn / 256), b e.runOn, b e.proofTimeout] ∧
    (e.inRange = true → decodeGroup (encodeGroup e) = some e)) ∧
  (∀ e : FanEntry,
    let slot : Nat := match e.airflowSlot with | some i => i.val | none => 0xFF
    encodeFan e =
      [b (bit e.enabled 0), b e.driveNode, b (e.group.val + 16 * e.order.val), b slot, b (e.proofLevel / 256),
        b e.proofLevel] ∧
    (e.inRange = true → decodeFan (encodeFan e) = some e)) ∧
  ∀ e : DeviceEntry,
    encodeDevice e =
      [b (e.surveyPeriod / 250), b e.replyTimeout, b e.retries, b e.transitAllowance, b e.warmupCount, b (bit e.fastField 0),
        b (e.holdLimit / 256), b e.holdLimit, b (bit e.releaseEnable 0)] ∧
    (e.inRange = true → decodeDevice (encodeDevice e) = some e)

/-- R128, R129, R130, R168 (parts): on both segments the characters a frame is sent as are received as that frame; with any
other CRC they are a CRC error; a length above the segment's limit, 60 or 120, is malformed whatever follows; and a field
frame is a valid reply when its addresses, kind, length and point numbers are as R130 asks. -/
def Obligations.FieldFramesAreReceivedAsSent : Prop :=
  (∀ (limit : Nat) (f : Frame), limit = 60 ∨ limit = 120 → f.payload.length ≤ limit →
    (∃ chars, frameChars f = 0xA5 :: chars ∧ receive limit chars = .frame f) ∧
    ∀ hi lo : Byte, joinBytes hi lo ≠ crc (frameBody f) → receive limit (frameBody f ++ [hi, lo]) = .crcError) ∧
  (∀ (limit : Nat) (dst src kind len : Byte) (rest : List Byte), limit = 60 ∨ limit = 120 → limit < len.toNat →
    receive limit (dst :: src :: kind :: len :: rest) = .malformed) ∧
  ∀ (dest : Byte) (f : Frame),
    let point (j : Nat) : Nat := ((f.payload.getD (1 + 3 * j) 0).extractLsb' 0 4).toNat
    validReply dest f = true ↔
      f.dst = 0 ∧ f.src = dest ∧ f.kind = 0x11 ∧ ∃ k, k ≤ 8 ∧ f.payload.length = 1 + 3 * k ∧
        (∀ j, j < k → point j < 8) ∧ ∀ j j', j < j' → j' < k → point j ≠ point j'

/-! ## The attempt in flight -/

/-- R135, R137, R138 (parts): the phases of an attempt, and the failed poll attempt that leaves attempts remaining: the
failure is counted against the node, a contention against the segment, and the same frame waits for an idle line. Everything
else is unchanged. -/
def Obligations.AttemptsPassTheirPhasesAndAreRepeated : Prop :=
  ∀ (s : State) (tr : Transaction), s.inReset = false → s.transaction = some tr →
    (tr.phase = .sending → exec .frameTransmitted s =
      .next { s with contention := 0, transaction := some { tr with phase := .awaiting } }) ∧
    (tr.phase = .awaiting → exec .openingMarkReceived s =
      .next { s with transaction := some { tr with phase := .receiving } }) ∧
    (tr.phase = .gap → exec .nextAttempt s = .next { s with transaction := some { tr with phase := .sending } }) ∧
    ∀ (a n : Nat), tr.owner = .poll a → tr.left = n + 1 →
      let again : Transaction := { tr with left := n, phase := .gap }
      let counted : State := { s with
        pollList := s.pollList.map fun e => if e.address = a then { e with errors := min 255 (e.errors + 1) } else e
        transaction := some again }
      (tr.phase = .awaiting → exec .replyTimeout s = .next counted) ∧
      (tr.phase = .receiving → exec .framingError s = .next counted) ∧
      (tr.phase = .receiving → ∀ chars : List Byte,
        (receive 60 chars = .malformed ∨ receive 60 chars = .crcError ∨
          ∃ f, receive 60 chars = .frame f ∧ validReply tr.frame.dst f = false) →
        exec (.fieldReceptionEnd chars) s = .next counted) ∧
      (tr.phase = .sending → s.contention + 1 < 3 → exec .contentionMismatch s =
        .next { s with contention := s.contention + 1, transaction := some again })

/-- R137, R138, R134, R133, R141, R142 (parts): the last allowed attempt fails, by a timeout, a framing error, a reception that is
malformed, a CRC error or no valid reply, each counted in the node's error count, or by a contention that leaves the count
below 3, which is counted there and not in the error count: the node is missed and OFFLINE, a change of its state posts
NODE_STATE, and the transaction of the next entry begins; everything else is unchanged. After the last entry the walk ends and
the survey completes: the cycle is counted and the completion's work is begun (SurveyCompletes), its open orders log 4, the counts
after the group steps log 14, and the pause at the first count that comes to its end log 1. -/
def Obligations.LastFailedAttemptMissesTheNode : Prop :=
  ∀ (s : State) (tr : Transaction) (before : List PollEntry) (e : PollEntry) (c : Instr) (errors contention : Nat),
    s.inReset = false → s.transaction = some tr → tr.owner = .poll e.address → tr.left = 0 →
    (s.pollList.map (·.address)).Pairwise (· < ·) →
    ((errors = min 255 (e.errors + 1) ∧ contention = s.contention ∧
        ((tr.phase = .awaiting ∧ c = .replyTimeout) ∨ (tr.phase = .receiving ∧ (c = .framingError ∨
          ∃ chars, c = .fieldReceptionEnd chars ∧ (receive 60 chars = .malformed ∨ receive 60 chars = .crcError ∨
            ∃ f, receive 60 chars = .frame f ∧ validReply tr.frame.dst f = false))))) ∨
      (errors = e.errors ∧ contention = s.contention + 1 ∧ contention < 3 ∧ tr.phase = .sending ∧
        c = .contentionMismatch)) →
    let missed : PollEntry := { e with state := .offline, miss := min 255 (e.miss + 1), errors := errors }
    let noted (list : List PollEntry) : State :=
      let u : State := { s with pollList := list, contention := contention }
      if e.state = .offline then u
      else post .nodeState e.address (detailOf (NodeState.offline.code + 16 * e.state.code) missed.miss) u
    (∀ (next : PollEntry) (after : List PollEntry), s.pollList = before ++ e :: next :: after →
      exec c s = .next { noted (before ++ missed :: next :: after) with
        transaction := some { owner := .poll next.address, frame := pollFrame s next, left := s.tables.device.retries,
                              phase := .sending } }) ∧
    (s.pollList = before ++ [e] → ∃ t, exec c s = .next t ∧ 
      SurveyCompletes false { noted (before ++ [missed]) with transaction := none } t)

/-- R136, R134, R6, R7, R23, R35, R141, R142 (parts): a valid READING. The node is ONLINE with miss streak 0 and its error count
kept, and one that was not ONLINE posts NODE_STATE. Then its point records are taken in payload order: the valid slot that holds
the record's key gives the channel, which takes the sample, and a change of its health, but one between GOOD and HELD, posts
CHANNEL_HEALTH; a record that no slot binds is ignored, and a DISABLED channel takes none. Everything else is unchanged, and the
walk goes on: the next entry's transaction begins, and after the last entry the survey completes (SurveyCompletes), its open
orders log 4, the counts after the group steps log 14, and the pause at the first count that comes to its end log 1. -/
def Obligations.ReadingConditionsItsChannel : Prop :=
  ∀ (s : State) (tr : Transaction) (a : Nat) (chars : List Byte) (f : Frame) (status : Byte) (points : List (Byte × Byte × Byte)),
    s.inReset = false → s.transaction = some tr → tr.owner = .poll a → tr.phase = .receiving →
    receive 60 chars = .frame f → validReply tr.frame.dst f = true →
    f.payload = status :: points.flatMap (fun p => [p.1, p.2.1, p.2.2]) → KeysLaw s →
    let listed : State := { s with
      pollList := s.pollList.map fun e => if e.address = a then { e with state := .online, miss := 0 } else e }
    let online : State := match s.pollList.find? fun e => e.address == a with
      | some e => if e.state = .online then listed
          else post .nodeState a (detailOf (NodeState.online.code + 16 * e.state.code) 0) listed
      | none => listed
    let slot (p : Byte × Byte × Byte) : Option (Fin 64) := (List.finRange 64).find? fun i =>
      let b := s.tables.bindings[i]
      b.valid && b.node == a && b.point.val == (p.1.extractLsb' 0 4).toNat
    let healthy (h : Health) : Prop := h = .good ∨ h = .held
    -- the state after the point record `p` is taken in `u`
    let taken (u : State) (p : Byte × Byte × Byte) : State := match slot p with
      | none => u
      | some i =>
        let b := s.tables.bindings[i]
        let old := u.channels[i]
        let new := sampleRecord b s.tables.zones[b.zone].settleCount old ((joinBytes p.2.1 p.2.2).extractLsb' 0 12).toNat
          (p.1.getLsbD 4 || status.getLsbD 0) (p.1.getLsbD 5 || status.getLsbD 1)
        let v : State := { u with channels := u.channels.set i new }
        if old.health = .disabled then u
        else if old.health = new.health ∨ (healthy old.health ∧ healthy new.health) then v
        else post .channelHealth i.val (detailOf new.health.code old.health.code) v
    let conditioned : State := points.foldl taken online
    ∃ t, exec (.fieldReceptionEnd chars) s = .next t ∧
      (∀ next, s.pollList.find? (fun e => decide (a < e.address)) = some next →
        t = { conditioned with
          transaction := some { owner := .poll next.address, frame := pollFrame s next, left := s.tables.device.retries,
                                phase := .sending } }) ∧
      ((∀ e ∈ s.pollList, e.address ≤ a) → SurveyCompletes false { conditioned with transaction := none } t)

/-- R142, R143, R144, R139, R176, R177, R8, R29 (parts): transit dispatch. It begins as the last piece of a completion whose
segment is still POLLING: the oldest permitted WAITING entry is SENT and its frame begins, the WAITING entries before it are
DENIED, and with none permitted all are DENIED and the segment is WAITING; on another segment no transit is dispatched. An attempt
ends in its entry: DONE with the reading as received; with TIMEOUT on a timeout, a framing error, a malformed reception, a CRC
error or a wrong reply; ABANDONED on contention. A CONFIG that completes REPLY marks its destination's channels for settling, and
nothing else changes a channel or a node record. Then dispatch goes on in the same way, or ends at its allowance, toward which a
frame stopped by contention counts (log 17). With a tick held, dispatch stops and the entries still WAITING stay; that tick is
taken by DEFERRED_TICK, a step of its own in the table (TicksAreTakenByTheSegmentState). A third contention makes the segment
FAULTED for two ticks, SEGMENT_STATE posted and HEALTHY de-energized, and a tick held then stays held (log 16). -/
def Obligations.TransitAttemptsEndInTheirEntry : Prop :=
  let deny (e : TransitEntry) : TransitEntry := if e.state = .waiting then { e with state := .done .denied } else e
  -- from `u`, whose dispatch has sent `n` frames, with the queue `es`, dispatch goes to `t`
  let dispatched (u : State) (es : List TransitEntry) (n : Nat) (t : State) : Prop :=
    (∀ before e after, es = before ++ e :: after → e.state = .waiting → permitted u e.kind e.dest = true →
      (∀ d ∈ before, d.state = .waiting → permitted u d.kind d.dest = false) →
      t = { u with
        segment := .transit, dispatched := n + 1, transits := before.map deny ++ { e with state := .sent } :: after
        transaction :=
          some { owner := .transit, frame := fieldFrame e.dest e.kind e.payload, left := 0, phase := .sending } }) ∧
    ((∀ e ∈ es, e.state = .waiting → permitted u e.kind e.dest = false) →
      t = { u with segment := .waiting, dispatched := n, transits := es.map deny, transaction := none })
  (∀ (ws : List Work) (u : State), (runWork ws u).work = [] →
    runWork (ws ++ [.close]) u = runWork [.close] (runWork ws u)) ∧
  (∀ u : State, u.work = [] → u.transaction = none →
    (u.segment ≠ .polling → runWork [.close] u = u) ∧
    (u.segment = .polling → 1 ≤ u.tables.device.transitAllowance →
      dispatched u u.transits 0 (runWork [.close] u))) ∧
  ∀ (s : State) (tr : Transaction), s.inReset = false → s.transaction = some tr → tr.owner = .transit →
    s.segment = .transit →
    let ended (r : TransitResult) (reading : List Byte) : List TransitEntry :=
      s.transits.map fun e => if e.state = .sent then { e with state := .done r, reading := reading } else e
    -- what follows an attempt that ended with `r` and left `u`
    let followed (u : State) (r : TransitResult) (reading : List Byte) (t : State) : Prop :=
      (s.deferredTick = true → t = { u with transaction := none, transits := ended r reading }) ∧
      (s.deferredTick = false → s.tables.device.transitAllowance ≤ s.dispatched →
        t = { u with transaction := none, segment := .waiting, transits := ended r reading }) ∧
      (s.deferredTick = false → s.dispatched < s.tables.device.transitAllowance →
        dispatched u (ended r reading) s.dispatched t)
    (tr.phase = .receiving → ∀ (chars : List Byte) (f : Frame), receive 60 chars = .frame f →
      validReply tr.frame.dst f = true →
      ((∀ e ∈ s.transits, e.state = .sent → e.kind ≠ .config) →
        ∃ t, exec (.fieldReceptionEnd chars) s = .next t ∧ followed s .reply f.payload t) ∧
      ∀ e, s.transits.find? (fun e => e.state == .sent) = some e → e.kind = .config →
        ∃ t u, exec (.fieldReceptionEnd chars) s = .next t ∧ followed u .reply f.payload t ∧
          u = { s with channels := u.channels, events := u.events, lost := u.lost, draws := u.draws } ∧
          ∀ i : Fin 64,
            let b := s.tables.bindings[i]
            let c := s.channels[i]
            let n := s.tables.zones[b.zone].settleCount
            let marked : Prop := b.valid = true ∧ b.node = e.dest
            (marked → c.health = .good ∨ c.health = .held →
              u.channels[i] = { c with health := .settling, settleLeft := n } ∧
              Posted s u .channelHealth i.val (detailOf Health.settling.code c.health.code)) ∧
            (marked → c.health = .settling → u.channels[i] = { c with settleLeft := n }) ∧
            (¬ marked ∨ (c.health ≠ .good ∧ c.health ≠ .held ∧ c.health ≠ .settling) → u.channels[i] = c)) ∧
    (tr.phase = .receiving → ∃ t, exec .framingError s = .next t ∧ followed s .timeout [] t) ∧
    (tr.phase = .receiving → ∀ chars : List Byte,
      (receive 60 chars = .malformed ∨ receive 60 chars = .crcError ∨
        ∃ f, receive 60 chars = .frame f ∧ validReply tr.frame.dst f = false) →
      ∃ t, exec (.fieldReceptionEnd chars) s = .next t ∧ followed s .timeout [] t) ∧
    (tr.phase = .awaiting → ∃ t, exec .replyTimeout s = .next t ∧ followed s .timeout [] t) ∧
    (tr.phase = .sending → s.contention + 1 < 3 →
      ∃ t, exec .contentionMismatch s = .next t ∧
        followed { s with contention := s.contention + 1 } .abandoned [] t) ∧
    (tr.phase = .sending → 3 ≤ s.contention + 1 →
      let u := post .segmentState 0 (detailOf Segment.faulted.code Segment.transit.code) { s with
        contention := s.contention + 1, segment := .faulted, countdown := 2, transaction := none
        transits := ended .abandoned [] }
      exec .contentionMismatch s = .next { u with outputs := { s.outputs with healthy := false } })

/-- R139, R142, R134, R146, R148 (parts): a third contention in a row, or a release acted on, during a poll transaction: the node is
missed, with NODE_STATE on a change of its state, and the walk ends there. The segment is FAULTED for two ticks, or RELEASED with
the contention count and the countdown 0; SEGMENT_STATE is posted, and for a release SERVICE_RELEASE; HEALTHY is de-energized. From
the state so left the survey completes (SurveyCompletes): its open orders are log 4, the counts after the group steps log 14, and
the pause at the first count that comes to its end log 1. The order of the events is log 13. That a release in the idle gap
between two attempts finds the transaction in flight is log 37, and that the change list is unchanged where the hold comes to its
end in the completion is the pause of log 1. -/
def Obligations.EarlyEndOfAWalkCompletesTheSurvey : Prop :=
  ∀ (s : State) (tr : Transaction) (a : Nat), s.inReset = false → s.transaction = some tr → tr.owner = .poll a →
    let missed := s.pollList.map fun e =>
      if e.address = a then { e with state := .offline, miss := min 255 (e.miss + 1) } else e
    -- the node missed, from `u`
    let noted (u : State) : State := match s.pollList.find? fun e => e.address == a with
      | some e => if e.state = .offline then u
          else post .nodeState a (detailOf (NodeState.offline.code + 16 * e.state.code) (min 255 (e.miss + 1))) u
      | none => u
    let silent : Outputs := { s.outputs with healthy := false }
    (s.pollList.map (·.address)).Pairwise (· < ·) →
    (tr.phase = .sending → s.contention = 2 → s.segment = .polling →
      let u := noted { s with transaction := none, pollList := missed, contention := 3 }
      let v := post .segmentState 0 (detailOf Segment.faulted.code Segment.polling.code)
        { u with segment := .faulted, countdown := 2 }
      ∃ t, exec .contentionMismatch s = .next t ∧ SurveyCompletes false { v with outputs := silent } t ∧
        t.segment = .faulted ∧ t.countdown = 2 ∧ t.contention = 3 ∧ t.transaction = none ∧
        t.cycleCount = s.cycleCount + 1 ∧ t.pollList = missed ∧ t.outputs.healthy = false ∧ t.tables = s.tables ∧
        t.changes = s.changes ∧ t.transits = s.transits ∧
        Posted s t .segmentState 0 (detailOf Segment.faulted.code Segment.polling.code)) ∧
    (s.mode ≠ .standby → s.tables.device.releaseEnable = true → s.releaseLine = false → s.segment = .polling →
      let u := noted { s with transaction := none, pollList := missed, releaseLine := true }
      let v := post .serviceRelease 0 (detailOf 0 1)
        (post .segmentState 0 (detailOf Segment.released.code Segment.polling.code)
          { u with segment := .released, contention := 0, countdown := 0 })
      ∃ t, exec .serviceReleaseAsserted s = .next t ∧ SurveyCompletes false { v with outputs := silent } t ∧
        t.segment = .released ∧ t.countdown = 0 ∧ t.contention = 0 ∧ t.transaction = none ∧
        t.cycleCount = s.cycleCount + 1 ∧ t.pollList = missed ∧ t.outputs.healthy = false ∧ t.tables = s.tables ∧
        t.changes = s.changes ∧ t.transits = s.transits ∧ t.releaseLine = true ∧
        Posted s t .segmentState 0 (detailOf Segment.released.code Segment.polling.code) ∧
        Posted s t .serviceRelease 0 (detailOf 0 1))

/-! ## Ticks, apply points and empty cycles -/

/-- R141, R142, R144, R147, R159, R133 (parts): a tick that finds the segment WAITING with nothing to apply, and a held tick whose
transit transaction has ended, start a survey cycle: the segment is POLLING and the first entry's transaction begins; over an empty
poll list the walk ends as it begins, and the survey completes (SurveyCompletes: log 4, log 14, log 1). So does the first tick after
the release line's deassertion, on a RELEASED segment: SEGMENT_STATE from RELEASED to WAITING is posted and HEALTHY judged first. A
tick still held where another one starts the cycle is dropped (log 43). A tick during a walk is dropped with CYCLE_OVERRUN and the
node's address, and one that finds completion work waiting with address 0 (its pause is log 1, on another segment than a POLLING one
log 15); one during a transit transaction is held (a second one is absorbed: log 30), and with the timer stopped there is none, so
that the command changes nothing (log 2). Everything else is unchanged. R133's three rows: the frame an entry is sent at its turn is
a QUERY with its point mask for a SENSOR entry and for a DRIVE entry whose fan's group is under hand-over, and else a DRIVE with the
fan's setpoint and the mask. -/
def Obligations.TicksAreTakenByTheSegmentState : Prop :=
  ∀ s : State, s.inReset = false →
    ((s.hold = true ∨ s.save ≠ none ∨ s.changes = []) → s.work = [] →
      -- a cycle with nothing to apply starts in `u` and goes to `t`
      let started (u t : State) : Prop :=
        let v := { u with segment := .polling, deferredTick := false }
        (∀ (e : PollEntry) (es : List PollEntry), s.pollList = e :: es → 1 ≤ e.address →
          t = { v with transaction := some { owner := .poll e.address, frame := pollFrame s e,
                                             left := s.tables.device.retries, phase := .sending } }) ∧
        (s.pollList = [] → SurveyCompletes false { v with transaction := none } t)
      (s.timerOn = true → s.segment = .waiting → ∃ t, exec .cycleTick s = .next t ∧ started s t) ∧
      (s.timerOn = true → s.segment = .released → s.releaseLine = false →
        let u := post .segmentState 0 (detailOf Segment.waiting.code Segment.released.code) { s with segment := .waiting }
        ∃ t, exec .cycleTick s = .next t ∧
          started { u with outputs := { s.outputs with healthy := healthyFunction u } } t) ∧
      (s.deferredTick = true → s.segment = .transit → s.transaction = none →
        ∃ t, exec .deferredTick s = .next t ∧ started s t)) ∧
    (s.timerOn = true → s.segment ≠ .idle → s.work ≠ [] → s.transaction = none →
      exec .cycleTick s = .next (post .cycleOverrun 0 (detailOf 0 0) s)) ∧
    (∀ tr, s.timerOn = true → s.segment = .polling → s.transaction = some tr →
      exec .cycleTick s = .next (post .cycleOverrun 0 (detailOf 0 tr.frame.dst.toNat) s)) ∧
    (∀ tr, s.timerOn = true → s.segment = .transit → s.work = [] → s.transaction = some tr →
      exec .cycleTick s = .next { s with deferredTick := true }) ∧
    (s.timerOn = false → exec .cycleTick s = .next s) ∧
    ∀ e : PollEntry,
      let sent (kind : Byte) (payload : List Byte) : Frame :=
        { dst := byteOf e.address, src := 0, kind := kind, payload := payload }
      (e.fan = none → pollFrame s e = sent 0x10 [e.mask]) ∧
      ∀ f : Fin 8, e.fan = some f →
        (s.groups[s.tables.fans[f].group].handOver = false →
          pollFrame s e = sent 0x12 [byteOf s.fans[f].setpoint, e.mask]) ∧
        (s.groups[s.tables.fans[f].group].handOver = true → pollFrame s e = sent 0x10 [e.mask])

/-- R159, R160, R164, R132 (parts): the apply point of a tick takes the whole list when hold is off and no SAVE is in flight:
every record is applied or rejected in list order; when at least one was applied, the run set and condition of every group are
recomputed and the poll list is rebuilt, with the record of an address that stood in it carried over; the list is emptied, one
APPLIED event gives the two numbers, and the outputs are judged. Otherwise nothing is applied. The cycle then starts from the
state the apply point leaves, or over an empty poll list completes at once (SurveyCompletes: log 4, log 14, log 1); a tick still
held is dropped by it (log 43). R10 to R15, R29, R30, R59, R60, R62, R63, R74, R75, R97, R98, R116, R161 to R163
(parts): which records of each table are rejected and why, and what an applied one does to its entry and to the chain,
channel, zone, group and fan records. An applied ZONES record in WARMUP or RUN posts ZONE_STATE, RISING (with the reading after the
change: log 32) and SPILL_STATE for what it changes, recomputes the groups of both masks with their floor rule and hand-over (a
slotless fan taken back is log 41), and leaves the others. That a LEAK binding moved to another zone is marked for settling, not restarted, is the
model's choice (log 40); that a changed fan which stays in its run set waits OFF is log 20. -/
def Obligations.ApplyPointsTakeTheWholeList : Prop :=
  (∀ s : State, s.inReset = false → s.timerOn = true → s.segment = .waiting → s.work = [] → s.changes ≠ [] →
    ∃ t, exec .cycleTick s = .next t ∧
      (if s.hold = false ∧ s.save = none then
        let r := applyRecords s.changes { s with segment := .polling, deferredTick := false }
        t.changes = [] ∧ t.tables = r.1.tables ∧ r.2.1 + r.2.2 = s.changes.length
      else t.changes = s.changes ∧ t.tables = s.tables) ∧
      let u := applyPoint { s with segment := .polling, deferredTick := false }
      (∀ (e : PollEntry) (es : List PollEntry), u.pollList = e :: es → 1 ≤ e.address →
        t = { u with transaction := some { owner := .poll e.address, frame := pollFrame u e,
                                           left := u.tables.device.retries, phase := .sending } }) ∧
      (u.pollList = [] → SurveyCompletes false { u with transaction := none } t)) ∧
  (∀ s : State,
    (s.hold = true ∨ s.save ≠ none ∨ s.changes = [] → applyPoint s = s) ∧
    (s.hold = false → s.save = none → s.changes ≠ [] →
      let r := applyRecords s.changes s
      ∃ w : State,
        w = { r.1 with groups := w.groups, fans := w.fans, pollList := w.pollList, outputs := w.outputs,
                       events := w.events, lost := w.lost, draws := w.draws } ∧
        (r.2.1 = 0 → w = r.1) ∧
        (1 ≤ r.2.1 →
          (∀ g : Fin 4, w.groups[g] = { r.1.groups[g] with
            runSet := selectRunSet r.1.tables r.1.fans g
            condition := conditionOf r.1.tables g (selectRunSet r.1.tables r.1.fans g).length }) ∧
          PollLaw w ∧
          ∀ e ∈ w.pollList,
            (∀ p : Fin 8, e.mask.getLsbD p.val = true ↔ ∃ i : Fin 64, w.tables.bindings[i].valid = true ∧
              w.tables.bindings[i].node = e.address ∧ w.tables.bindings[i].point = p) ∧
            (e.fan = none ↔ ∀ f : Fin 8, w.tables.fans[f].enabled = true → w.tables.fans[f].driveNode ≠ e.address) ∧
            (∀ f, e.fan = some f → w.tables.fans[f].enabled = true ∧ w.tables.fans[f].driveNode = e.address) ∧
            (∀ o, s.pollList.find? (fun o => o.address == e.address) = some o →
              e.state = o.state ∧ e.miss = o.miss ∧ e.errors = o.errors) ∧
            ((∀ o ∈ s.pollList, o.address ≠ e.address) → e.state = .unknown ∧ e.miss = 0 ∧ e.errors = 0)) ∧
        (let v := post .applied 0 (detailOf r.2.1 r.2.2) { w with changes := [] }
         applyPoint s = { v with outputs :=
           { chargePermit := chargeFunction v, beacon := beaconFunction v, healthy := healthyFunction v
             ventProven := if ventFunction v = .pending then v.outputs.ventProven
               else decide (ventFunction v = .proven) } }))) ∧
  (∀ (s : State) (c : Change) (cs : List Change),
    applyRecords [] s = (s, 0, 0) ∧
    (changeRejects s c = none →
      let r := applyRecords cs (judgeAlarm (applyChange c s))
      applyRecords (c :: cs) s = (r.1, r.2.1 + 1, r.2.2)) ∧
    ∀ why, changeRejects s c = some why →
      let r := applyRecords cs (post .tableReject c.table.code (detailOf why.code c.index) s)
      applyRecords (c :: cs) s = (r.1, r.2.1, r.2.2 + 1)) ∧
  (∀ (s : State) (i : Fin 64) (new : Binding),
    let old := s.tables.bindings[i]
    let sameKey : Prop := old.node = new.node ∧ old.point = new.point
    let takesKey : Prop := new.valid = true ∧ (old.valid = false ∨ ¬ sameKey)
    let orphans : Prop := old.valid = true ∧ old.kind = .airflow ∧ ¬ (new.valid = true ∧ new.kind = .airflow) ∧
      ∃ f : Fin 8, s.tables.fans[f].airflowSlot = some i
    let collides : Prop := ∃ j : Fin 64, j ≠ i ∧ s.tables.bindings[j].valid = true ∧
      s.tables.bindings[j].node = new.node ∧ s.tables.bindings[j].point = new.point
    let bucket : Fin 16 := bucketOf new.node new.point.val
    let full : Prop := 8 ≤ (s.chains[bucket].filter fun j => j != i).length
    let sameUse : Prop := old.zone = new.zone ∧
      (match old.kind with
       | .contact => old.role = new.role
       | .leak => old.zeroOffset = new.zeroOffset ∧ old.span = new.span ∧ old.shift = new.shift ∧
           old.wetLevel = new.wetLevel
       | _ => old.zeroOffset = new.zeroOffset ∧ old.span = new.span ∧ old.shift = new.shift)
    let c := s.channels[i]
    let t := applyChange (.binding i new) s
    let fate := changeRejects s (.binding i new)
    (orphans → fate = some .badReference) ∧
    (¬ orphans → takesKey → collides → fate = some .keyCollision) ∧
    (¬ orphans → takesKey → ¬ collides → full → fate = some .chainFull) ∧
    (¬ orphans → ¬ (takesKey ∧ (collides ∨ full)) → fate = none) ∧
    t = { s with
      tables := { s.tables with bindings := s.tables.bindings.set i new }
      chains := t.chains, channels := s.channels.set i t.channels[i] } ∧
    (KeysLaw s → ∀ b : Fin 16,
      (takesKey → b = bucket → t.chains[b] = (s.chains[b].filter fun j => j != i) ++ [i]) ∧
      ((takesKey ∧ b ≠ bucket) ∨ new.valid = false → t.chains[b] = s.chains[b].filter fun j => j != i) ∧
      (old.valid = true → new.valid = true → sameKey → t.chains[b] = s.chains[b])) ∧
    (old.valid = true → new.valid = false → t.channels[i] = ChannelRecord.restarted .disabled) ∧
    (new.valid = true → (old.valid = false ∨ ¬ sameKey ∨ old.kind ≠ new.kind) →
      t.channels[i] = ChannelRecord.restarted .unseen) ∧
    (old.valid = true → new.valid = true → sameKey → old.kind = new.kind → ¬ sameUse →
      let n := s.tables.zones[new.zone].settleCount
      (c.health = .good ∨ c.health = .held → t.channels[i] = { c with health := .settling, settleLeft := n }) ∧
      (c.health = .settling → t.channels[i] = { c with settleLeft := n }) ∧
      (c.health ≠ .good → c.health ≠ .held → c.health ≠ .settling → t.channels[i] = c)) ∧
    ((old.valid = true ∧ new.valid = true ∧ sameKey ∧ old.kind = new.kind ∧ sameUse) ∨
      (old.valid = false ∧ new.valid = false) → t.channels[i] = c)) ∧
  (∀ (s : State) (z : Fin 16) (e : ZoneEntry),
    let old := s.tables.zones[z]
    let new : ZoneEntry := { e with hysteresis := min e.hysteresis e.watch }
    let t := applyChange (.zone z e) s
    changeRejects s (.zone z e) = (if e.watch ≤ e.alert ∧ e.alert ≤ e.alarm then none else some .levelOrder) ∧
    (old = new → t = s) ∧
    (old ≠ new → s.mode = .standby ∨ (old.enabled = false ∧ e.enabled = false) →
      t = { s with tables := { s.tables with zones := s.tables.zones.set z new } }) ∧
    (old ≠ new → s.mode ≠ .standby → old.enabled = true ∨ e.enabled = true →
      let was := s.zones[z]
      let now := t.zones[z]
      t = { s with
        tables := { s.tables with zones := s.tables.zones.set z new }, zones := s.zones.set z now, groups := t.groups
        fans := t.fans, events := t.events, lost := t.lost, draws := t.draws } ∧
      now = (if old.enabled && e.enabled then { was with ring := [], rising := false }
        else if old.enabled then ZoneRecord.cleared .inactive else ZoneRecord.cleared .normal) ∧
      (was.gas ≠ now.gas ∨ was.noSense ≠ now.noSense →
        Posted s t .zoneState z.val (detailOf now.gas.code (was.gas.code + 16 * now.noSense.toNat))) ∧
      (was.rising ≠ now.rising →
        Posted s t .rising z.val (detailOf (128 * now.rising.toNat + now.reading / 256) now.reading)) ∧
      (was.spill ≠ now.spill ∨ was.spillBlind ≠ now.spillBlind →
        Posted s t .spillState z.val (detailOf now.spill.code (was.spill.code + 16 * now.spillBlind.toNat))) ∧
      (∀ g : Fin 4,
        let raises : Prop := s.groups[g].commanded < floorOf t g
        if (old.groupMask ||| e.groupMask).getLsbD g.val = true then
          t.groups[g] = { s.groups[g] with
            demand := demandOf t g, floor := floorOf t g, effective := effectiveOf s.mode t.groups[g]
            commanded := if raises then floorOf t g else s.groups[g].commanded
            runOn := if raises then 0 else s.groups[g].runOn, handOver := t.groups[g].handOver } ∧
          (t.groups[g].handOver = true ↔ HandOverHolds s.mode t.groups[g])
        else t.groups[g] = s.groups[g]) ∧
      (∀ f : Fin 8, t.fans[f] = handedFan s t f) ∧ FansPosted s t)) ∧
  (∀ (s : State) (g : Fin 4) (e : GroupEntry),
    let t := applyChange (.group g e) s
    let r := t.groups[g]
    changeRejects s (.group g e) = none ∧ (s.tables.groups[g] = e → t = s) ∧
    (s.tables.groups[g] ≠ e →
      t.tables = { s.tables with groups := s.tables.groups.set g e } ∧ t.zones = s.zones ∧ t.channels = s.channels ∧
      (∀ g' : Fin 4, g' ≠ g → t.groups[g'] = s.groups[g']) ∧
      (s.mode = .standby → t.groups = s.groups ∧ t.fans = s.fans) ∧
      (s.mode ≠ .standby →
        r.runOn = 0 ∧ r.demand = demandOf t g ∧ r.floor = floorOf t g ∧ r.effective = effectiveOf s.mode r ∧
        r.commanded = max s.groups[g].commanded r.floor ∧ r.stack = s.groups[g].stack ∧
        r.runSet = selectRunSet t.tables t.fans g ∧ r.condition = conditionOf t.tables g r.runSet.length))) ∧
  (∀ (s : State) (f : Fin 8) (e : FanEntry),
    let old := s.tables.fans[f]
    let t := applyChange (.fan f e) s
    let fate := changeRejects s (.fan f e)
    let taken : Prop := e.enabled = true ∧ ∃ j : Fin 8, j ≠ f ∧ s.tables.fans[j].enabled = true ∧
      s.tables.fans[j].driveNode = e.driveNode
    let unbound : Prop := ∃ i : Fin 64, e.airflowSlot = some i ∧
      ¬ (s.tables.bindings[i].valid = true ∧ s.tables.bindings[i].kind = .airflow)
    (taken → fate = some .duplicateDrive) ∧ (¬ taken → unbound → fate = some .badReference) ∧
    (¬ taken → ¬ unbound → fate = none) ∧ (old = e → t = s) ∧
    (old ≠ e →
      t.tables = { s.tables with fans := s.tables.fans.set f e } ∧ t.zones = s.zones ∧ t.channels = s.channels ∧
      t.fans[f].reason = .none ∧
      (∀ g : Fin 4, g = old.group ∨ g = e.group →
        t.groups[g] = { s.groups[g] with
          runSet := selectRunSet t.tables t.fans g
          condition := conditionOf t.tables g (selectRunSet t.tables t.fans g).length }) ∧
      (∀ g : Fin 4, g ≠ old.group → g ≠ e.group → t.groups[g] = s.groups[g]) ∧
      t.fans[f].state =
        (if e.enabled && s.groups[e.group].handOver then .manual
         else if f ∈ t.groups[e.group].runSet ∧ f ∉ s.groups[e.group].runSet ∧ 0 < s.groups[e.group].commanded
           then if e.airflowSlot.isSome then .starting else .running
         else .off))) ∧
  ∀ (s : State) (e : DeviceEntry),
    changeRejects s (.device e) = (if s.mode = .standby then none else some .notInStandby) ∧
    applyChange (.device e) s = { s with tables := { s.tables with device := e } }

/-- R145, R142, R159, R32 (parts): a tick of a FAULTED segment, or of a RELEASED one whose line is still asserted: the apply point is
taken, and the survey completes from the state it leaves (SurveyCompletes): every channel ages, the zones are evaluated, the groups
stepped and the counts counted, the FAULTED countdown among them (CountsEndWithTheirEffects has its decrement). The open orders are
log 4, the counts after the group steps log 14. No transaction begins, no node record changes, no transit entry is dispatched, and
the completion changes no table. The segment keeps its state: at a countdown of 1 the completion pauses before the countdown ends,
and FAULTED_COUNTDOWN_END makes the segment WAITING (log 1). -/
def Obligations.EmptyCyclesAskNoNode : Prop :=
  ∀ s : State, s.inReset = false → s.timerOn = true → s.work = [] →
    (s.segment = .faulted ∨ (s.segment = .released ∧ s.releaseLine = true)) →
    let u := applyPoint s
    ∃ t, exec .cycleTick s = .next t ∧ SurveyCompletes true u t ∧ t.cycleCount = s.cycleCount + 1 ∧
      t.segment = s.segment ∧ t.transaction = s.transaction ∧ t.transits = s.transits ∧ t.pollList = u.pollList ∧
      t.tables = u.tables ∧ (s.changes = [] → t.pollList = s.pollList ∧ t.tables = s.tables) ∧
      ∀ i : Fin 64, t.channels[i] =
        ageRecord u.tables.zones[u.tables.bindings[i].zone].staleLimit u.channels[i]

/-! ## Counts that come to their end -/

/-- R92 to R95, R114, R87, R86 (parts): steps 1 and 2 of a group step. A top context with a count above 1 has it lowered by 1, one
with count 0 stays, an empty stack counts nothing, and the stage update follows. A top context whose count stands at 1 is removed,
OVERRIDE_EXPIRED is posted or lost to a full queue, the effective stage follows the context below, the hand-over is judged with its
effect on the fans, and the step goes on. That the expiry is a command of its own, for which the completion waits, is the model's
reading of the table (log 1); so are the one FAN_STATE, from MANUAL to RUNNING, of a slotless fan taken back (log 41) and the order
of the events, OVERRIDE_EXPIRED first (log 13). -/
def Obligations.OverridesExpireAtTheGroupStep : Prop :=
  (∀ (s : State) (g : Fin 4) (ws : List Work),
    let r := s.groups[g]
    let counts : State := runWork (.countExpiry g :: ws) s
    (r.stack = [] → counts = runWork ws s) ∧
    (∀ c cs, r.stack = c :: cs →
      (c.expiry = 0 → counts = runWork ws s) ∧
      (2 ≤ c.expiry → counts = runWork ws
        { s with groups := s.groups.set g { r with stack := { c with expiry := c.expiry - 1 } :: cs } }) ∧
      (c.expiry = 1 → counts = { s with work := .countExpiry g :: ws })) ∧
    runWork (.stageUpdate g :: ws) s =
      runWork ws { s with groups := s.groups.set g (stepStage s.tables.groups[g].runOn r) }) ∧
  ∀ (s : State) (g : Fin 4) (ws : List Work) (c : Context) (cs : List Context), s.inReset = false →
    s.work = .countExpiry g :: ws → s.groups[g].stack = c :: cs → c.expiry = 1 →
    ∃ u, exec .overrideExpired s = .next (runWork ws u) ∧ u.groups[g].stack = cs ∧
      u.groups[g].commanded = s.groups[g].commanded ∧ u.groups[g].floor = s.groups[g].floor ∧
      u.groups[g].effective = effectiveOf s.mode { s.groups[g] with stack := cs } ∧
      (∀ g' : Fin 4, g' ≠ g → u.groups[g'] = s.groups[g']) ∧ u.tables = s.tables ∧ u.channels = s.channels ∧
      u.zones = s.zones ∧ u.mode = s.mode ∧ u.segment = s.segment ∧ u.changes = s.changes ∧
      HandOverJudged s u g ∧ Posted s u .overrideExpired g.val c.tag

/-- R108 to R112, R115, R158, R186, R145 (parts): step 3 of a group step. Part (a): at a commanded stage of 0 the group's STARTING
and RUNNING fans go OFF; above 0 the run-set fans that are OFF enter STARTING with the proof timeout loaded, or RUNNING without
an airflow slot, with their setpoint written. Parts (b) and (c): the judgements of the group's fans and its failover, in a step
in which no proof timer comes to 0 and by PROOF_TIMEOUT in one in which one does. Part (d): the setpoints of its STARTING and
RUNNING fans, and the finish of the step. The hold count rises by 1 and the warmup count and the FAULTED countdown fall by 1
where they do not end; where they would, the completion waits. Then the hold count and the FAULTED countdown come to their
end, each command's own effect in full (WarmupEndsInRun has the warmup count's). After each the survey completion goes on. That
these ends are commands of their own is the model's reading of the
table (log 1), that one PROOF_TIMEOUT takes every fan of the group whose timer ends in the step is log 27, and that a fan started
since its group step began is not judged in it is R109, kept as log 39 says. -/
def Obligations.CountsEndWithTheirEffects : Prop :=
  ∀ (s : State) (ws : List Work), s.inReset = false →
    (∀ g : Fin 4,
      let runs (f : Fin 8) : Prop := s.fans[f].state = .starting ∨ s.fans[f].state = .running
      let b := beginGroupStep g s
      let v := startsAndStops g s
      let w := writeSetpoints g s
      runWork (.stepBegins g :: ws) s = runWork ws b ∧ b = { s with fans := b.fans } ∧
      (∀ f : Fin 8, b.fans[f] = if s.tables.fans[f].group = g then { s.fans[f] with fresh := false } else s.fans[f]) ∧
      runWork (.startsStops g :: ws) s = runWork ws (judgeAlarm v) ∧
      v = { s with fans := v.fans, events := v.events, lost := v.lost, draws := v.draws } ∧
      (∀ f : Fin 8, s.groups[g].commanded = 0 → v.fans[f] =
        if s.tables.fans[f].group = g ∧ runs f then restingFan .off s.fans[f] else s.fans[f]) ∧
      (∀ f : Fin 8, 0 < s.groups[g].commanded → v.fans[f] =
        if f ∈ s.groups[g].runSet ∧ s.fans[f].state = .off then startedFan s f else s.fans[f]) ∧
      FansPosted s v ∧
      runWork (.setpoints g :: ws) s = runWork ws { w with outputs := { w.outputs with
        ventProven := if ventFunction w = .pending then w.outputs.ventProven else decide (ventFunction w = .proven)
        healthy := healthyFunction w } } ∧
      w = { s with fans := w.fans } ∧
      ∀ f : Fin 8, w.fans[f] =
        if s.tables.fans[f].group = g ∧ runs f then { s.fans[f] with setpoint := stageSpeed s f } else s.fans[f]) ∧
    (∀ g : Fin 4,
      let judged (f : Fin 8) : Prop := s.tables.fans[f].group = g ∧
        (s.fans[f].state = .starting ∨ s.fans[f].state = .running) ∧ s.fans[f].fresh = false ∧
        s.tables.fans[f].airflowSlot ≠ none
      let flow (f : Fin 8) : Prop := ∃ i : Fin 64, s.tables.fans[f].airflowSlot = some i ∧
        (s.channels[i].health = .good ∨ s.channels[i].health = .held) ∧
        s.tables.fans[f].proofLevel ≤ s.channels[i].filtered
      let timesOut (f : Fin 8) : Prop := judged f ∧ ¬ flow f ∧ s.fans[f].state = .starting ∧ s.fans[f].timer ≤ 1
      let failed (f : Fin 8) (why : Reason) : FanRecord :=
        { s.fans[f] with state := .failed, timer := 0, streak := 0, reason := why, setpoint := 0 }
      let v := judgeGroup g s
      let u := superviseGroup g s
      v = { s with fans := v.fans, events := v.events, lost := v.lost, draws := v.draws, outputs := v.outputs } ∧
      (∀ f : Fin 8, ¬ judged f → v.fans[f] = s.fans[f]) ∧
      (∀ f : Fin 8, judged f → flow f → v.fans[f] =
        if s.fans[f].state = .starting then { s.fans[f] with state := .running, timer := 0, streak := 0 }
        else { s.fans[f] with streak := 0 }) ∧
      (∀ f : Fin 8, timesOut f → v.fans[f] = failed f .noProof) ∧
      (∀ f : Fin 8, judged f → ¬ flow f → s.fans[f].state = .starting → 1 < s.fans[f].timer →
        v.fans[f] = { s.fans[f] with timer := s.fans[f].timer - 1 }) ∧
      (∀ f : Fin 8, judged f → ¬ flow f → s.fans[f].state = .running → v.fans[f] =
        if s.fans[f].streak + 1 < 3 then { s.fans[f] with streak := s.fans[f].streak + 1 } else failed f .lostFlow) ∧
      FansPosted s v ∧
      ((∀ f ∈ s.groups[g].runSet, v.fans[f].reason = .none) → u = v) ∧
      ((∃ f ∈ s.groups[g].runSet, v.fans[f].reason ≠ .none) →
        u = recomputeRunSet g v ∧
        u.groups[g] = { s.groups[g] with
          runSet := selectRunSet v.tables v.fans g
          condition := conditionOf v.tables g (selectRunSet v.tables v.fans g).length } ∧
        (∀ f ∈ u.groups[g].runSet, v.fans[f].reason = .none) ∧
        ∀ f ∈ u.groups[g].runSet, f ∉ s.groups[g].runSet → v.fans[f].state = .off →
          s.groups[g].handOver = false → 0 < s.groups[g].commanded →
          u.fans[f].state = if s.tables.fans[f].airflowSlot.isSome then .starting else .running) ∧
      ((∀ f : Fin 8, ¬ timesOut f) → runWork (.supervise g :: ws) s = runWork ws u) ∧
      (s.work = .supervise g :: ws → (∃ f : Fin 8, timesOut f) → exec .proofTimeout s = .next (runWork ws u)) ∧
      ∀ f : Fin 8, timesOut f → (∀ f' : Fin 8, judged f' → f' = f) →
        v = judgeAlarm
          (post .fanState f.val (detailOf (FanState.failed.code + 16 * FanState.starting.code) Reason.noProof.code)
            { s with fans := s.fans.set f (failed f .noProof) })) ∧
    (let after (w : Work) : State := runWork (w :: ws) s
     (s.hold = true → s.holdCount + 1 < s.tables.device.holdLimit →
       after .countHold = runWork ws { s with holdCount := s.holdCount + 1 }) ∧
     (s.hold = true → s.tables.device.holdLimit ≤ s.holdCount + 1 → after .countHold = { s with work := .countHold :: ws }) ∧
     (s.hold = false → after .countHold = runWork ws s) ∧
     (s.mode = .warmup → 2 ≤ s.warmupLeft → after .countWarmup = runWork ws { s with warmupLeft := s.warmupLeft - 1 }) ∧
     (s.mode = .warmup → s.warmupLeft ≤ 1 → after .countWarmup = { s with work := .countWarmup :: ws }) ∧
     (s.segment = .faulted → 2 ≤ s.countdown → after .countFaulted = runWork ws { s with countdown := s.countdown - 1 }) ∧
     (s.segment = .faulted → s.countdown ≤ 1 → after .countFaulted = { s with work := .countFaulted :: ws })) ∧
    (s.work = .countHold :: ws → s.hold = true → s.tables.device.holdLimit ≤ s.holdCount + 1 →
      exec .holdExpired s = .next (runWork ws
        (post .holdExpired 0 (detailOf 0 s.changes.length) { s with changes := [], hold := false, holdCount := 0 }))) ∧
    (s.work = .countFaulted :: ws → s.segment = .faulted → s.countdown ≤ 1 →
      exec .faultedCountdownEnd s = .next (runWork ws (judgeHealthy
        (post .segmentState 0 (detailOf Segment.waiting.code Segment.faulted.code)
          { s with segment := .waiting, countdown := 0, contention := 0 }))))

/-- R186, R184, R100, R121 to R126 (parts): the warmup count ends: the mode is RUN and MODE_CHANGE is posted, the zone records and
stacks are unchanged, each group's demand, floor and effective stage are recomputed, and the four outputs are judged, a pending
VENT_PROVEN keeping its de-energized level. For every state: R123's three results of VENT_PROVEN's function: unproven outside RUN
or with an UNAVAILABLE group; else pending while a run-set fan of an enabled group that calls for air is STARTING or OFF; and
proven with every such fan RUNNING or MANUAL; the functions of the other three outputs (R122, R125, R126); and the end of an
evaluation pass, which judges all four. That the completion waits for this command and goes on after it is log 1. -/
def Obligations.WarmupEndsInRun : Prop :=
  (∀ v : State,
    let unproven : Prop := v.mode ≠ .run ∨ ∃ g : Fin 4, v.groups[g].condition = .unavailable
    -- `f` stands in the run set of an enabled group that calls for air
    let called (f : Fin 8) : Prop := ∃ g : Fin 4, 0 < v.groups[g].commanded ∧ f ∈ v.groups[g].runSet ∧
      ∃ f' : Fin 8, v.tables.fans[f'].enabled = true ∧ v.tables.fans[f'].group = g
    (unproven → ventFunction v = .unproven) ∧
    (¬ unproven → (∃ f, called f ∧ (v.fans[f].state = .starting ∨ v.fans[f].state = .off)) → ventFunction v = .pending) ∧
    (¬ unproven → (∀ f, called f → v.fans[f].state = .running ∨ v.fans[f].state = .manual) →
      ventFunction v = .proven) ∧
    (chargeFunction v = true ↔ v.mode = .run ∧
      ∀ z : Fin 16, v.zones[z].gas ≠ .alert ∧ v.zones[z].gas ≠ .alarm ∧ v.zones[z].gas ≠ .fault) ∧
    (beaconFunction v = true ↔ ∃ z : Fin 16, (v.zones[z].gas = .alarm ∧ v.zones[z].alarmAck = false) ∨
      ((v.zones[z].spill = .wet ∨ v.zones[z].spill = .latched) ∧ v.zones[z].spillAck = false)) ∧
    (healthyFunction v = true ↔ v.mode = .run ∧
      (∀ z : Fin 16, v.zones[z].gas ≠ .fault ∧ v.zones[z].noSense = false ∧ v.zones[z].spillBlind = false) ∧
      v.segment ≠ .faulted ∧ v.segment ≠ .released ∧ v.storeValid = true ∧
      ∀ g : Fin 4, v.groups[g].condition ≠ .degraded ∧ v.groups[g].condition ≠ .unavailable) ∧
    ∀ ws : List Work, runWork (.endPass :: ws) v = runWork ws { v with outputs :=
      { chargePermit := chargeFunction v, beacon := beaconFunction v, healthy := healthyFunction v
        ventProven := if ventFunction v = .pending then v.outputs.ventProven
          else decide (ventFunction v = .proven) } }) ∧
  ∀ (s : State) (ws : List Work), s.inReset = false → s.work = .countWarmup :: ws → s.mode = .warmup →
    s.warmupLeft ≤ 1 → s.outputs.ventProven = false →
    ∃ u, exec .warmupCountEnd s = .next (runWork ws u) ∧ u.mode = .run ∧ u.warmupLeft = 0 ∧
      Posted s u .modeChange 0 (detailOf Mode.run.code Mode.warmup.code) ∧ u.zones = s.zones ∧
      u.channels = s.channels ∧ u.tables = s.tables ∧ u.segment = s.segment ∧ u.timerOn = s.timerOn ∧
      u.changes = s.changes ∧ u.transits = s.transits ∧ FreshStages u ∧
      (∀ g : Fin 4, u.groups[g].stack = s.groups[g].stack ∧ u.groups[g].floor ≤ u.groups[g].commanded) ∧
      (u.outputs.chargePermit = true ↔
        ∀ z : Fin 16, s.zones[z].gas ≠ .alert ∧ s.zones[z].gas ≠ .alarm ∧ s.zones[z].gas ≠ .fault) ∧
      (u.outputs.ventProven = true ↔ ventFunction u = .proven) ∧
      (u.outputs.beacon = true ↔ ∃ z : Fin 16, (s.zones[z].gas = .alarm ∧ s.zones[z].alarmAck = false) ∨
        ((s.zones[z].spill = .wet ∨ s.zones[z].spill = .latched) ∧ s.zones[z].spillAck = false)) ∧
      (u.outputs.healthy = true ↔
        (∀ z : Fin 16, s.zones[z].gas ≠ .fault ∧ s.zones[z].noSense = false ∧ s.zones[z].spillBlind = false) ∧
        s.segment ≠ .faulted ∧ s.segment ≠ .released ∧ s.storeValid = true ∧
        ∀ g : Fin 4, u.groups[g].condition ≠ .degraded ∧ u.groups[g].condition ≠ .unavailable)

/-! ## The service release line -/

/-- R146, R147, R144, R145 (parts): the release line's edges. In STANDBY or with the enable clear they are not acted on. Asserted
on another segment than a RELEASED one, it makes the segment RELEASED with both events, the contention count and the FAULTED
countdown 0 and HEALTHY de-energized; on a WAITING or FAULTED one that is all. Where a completion's work waits, the work goes on
as log 1 says, and no transit is dispatched after it. On a TRANSIT one the entry in flight is ABANDONED, the entries still
WAITING stay, and a tick held for the transaction is then taken as a tick of the RELEASED state. On a RELEASED one
SERVICE_RELEASE is posted, and nothing else changes. Deasserted on a RELEASED one, it posts SERVICE_RELEASE and the segment stays
RELEASED. That SEGMENT_STATE stands before SERVICE_RELEASE in the queue is the model's choice (log 13). A release during a walk
is EarlyEndOfAWalkCompletesTheSurvey. -/
def Obligations.ServiceReleaseEdges : Prop :=
  ∀ s : State,
    ((s.mode = .standby ∨ s.tables.device.releaseEnable = false) →
      exec .serviceReleaseAsserted s = .next { s with releaseLine := true } ∧
      exec .serviceReleaseDeasserted s = .next { s with releaseLine := false }) ∧
    (s.inReset = false → s.mode ≠ .standby → s.tables.device.releaseEnable = true →
      let released (u : State) : State :=
        let v := post .segmentState 0 (detailOf Segment.released.code s.segment.code)
          { u with releaseLine := true, segment := .released, contention := 0, countdown := 0 }
        post .serviceRelease 0 (detailOf 0 1) { v with outputs := { s.outputs with healthy := false } }
      (s.releaseLine = false → s.transaction = none → s.deferredTick = false → s.work = [] →
        s.segment = .waiting ∨ s.segment = .faulted → exec .serviceReleaseAsserted s = .next (released s)) ∧
      (s.releaseLine = false → s.transaction = none → s.deferredTick = false → s.work ≠ [] → s.segment ≠ .released →
        ∃ t, exec .serviceReleaseAsserted s = .next t ∧ t = runWork s.work (released s) ∧ t.segment = .released ∧
          t.transaction = none ∧ t.transits = s.transits ∧ t.cycleCount = s.cycleCount) ∧
      (∀ tr, s.releaseLine = false → s.segment = .transit → s.transaction = some tr → tr.owner = .transit →
        let u := released { s with
          transaction := none
          transits := s.transits.map fun e =>
            if e.state = .sent then { e with state := .done .abandoned, reading := [] } else e }
        (s.deferredTick = false → exec .serviceReleaseAsserted s = .next u) ∧
        (s.deferredTick = true → s.timerOn = true →
          exec .serviceReleaseAsserted s = exec .cycleTick { u with deferredTick := false })) ∧
      (s.releaseLine = false → s.segment = .released → exec .serviceReleaseAsserted s =
        .next (post .serviceRelease 0 (detailOf 0 1) { s with releaseLine := true })) ∧
      (s.releaseLine = true → s.segment = .released →
        exec .serviceReleaseDeasserted s =
          .next (post .serviceRelease 0 (detailOf 0 0) { s with releaseLine := false })))

/-! ## The store -/

/-- R191 (a part): a SAVE snapshots the active tables, or is BUSY while one is in flight, as is a RESTART; the write erases
the check value, then writes the snapshot's image and its check value; each changes nothing else. That the former image
stays whole until CHECK_VALUE_WRITTEN replaces image and check value together is log 9. -/
def Obligations.SavesWriteTheSnapshot : Prop :=
  ∀ s : State,
    (s.Listening → ∀ src : Byte,
      (s.save = none → exec (.save s.station (s.asked 0x53 src [])) s =
        .next (answered 0x53 src .done [] { s with save := some { snapshot := s.tables, phase := .accepted } })) ∧
      (s.save ≠ none → exec (.save s.station (s.asked 0x53 src [])) s = .next (answered 0x53 src .busy [] s) ∧
        exec (.restart s.station (s.asked 0x5A src [])) s = .next (answered 0x5A src .busy [] s))) ∧
    (s.inReset = false → ∀ v, s.save = some v →
      (v.phase = .accepted → exec .checkValueErased s =
        .next { s with store := { s.store with check := none }, save := some { v with phase := .erased } }) ∧
      (v.phase = .erased → exec .checkValueWritten s =
        .next { s with
          store := { image := encodeTables v.snapshot, check := some (crc (encodeTables v.snapshot)) }
          save := some { v with phase := .written } }))

/-- R191, R126 (parts): the SAVE completes: when the read-back agrees with the snapshot, store-valid is set and SAVE_DONE
posted; when a cell differs, store-valid is cleared, SAVE_FAILED posted and HEALTHY de-energized; no SAVE is in flight, and
the tables and the other three outputs are unchanged. That the cells found different stay so in the store is the model's
choice (log 10). -/
def Obligations.SavesCompleteByTheReadBack : Prop :=
  ∀ (s : State) (v : Save) (cells : List (Nat × Byte)), s.inReset = false → s.save = some v → v.phase = .written →
    ∃ t, exec (.saveCompletion cells) s = .next t ∧ t.save = none ∧ t.tables = s.tables ∧
      t.outputs.healthy = healthyFunction t ∧
      (let agrees : Bool := (cells.foldl changeCell s.store).image == encodeTables v.snapshot &&
          (cells.foldl changeCell s.store).check == some (crc (encodeTables v.snapshot))
       let q := postInto s.events s.lost
        { kind := if agrees then .saveDone else .saveFailed, subject := 0, detail := 0, stamp := s.cycleCount,
          repeats := 1 }
       t.storeValid = agrees ∧ t.events = q.1 ∧ t.lost = q.2 ∧ (agrees = false → t.outputs.healthy = false)) ∧
      t = { s with store := cells.foldl changeCell s.store, storeValid := t.storeValid, save := none,
                   events := t.events, lost := t.lost, outputs := { s.outputs with healthy := t.outputs.healthy } }

/-! ## The trunk port -/

/-- R168 to R170 (parts): a dropped frame changes nothing, nor does a request row's command whose characters are malformed,
fail the CRC, are not complete, are addressed to another station or to the broadcast address, or come while the port does not
listen; a code outside the catalog is answered BAD_REQUEST and changes nothing else; the port listens again when its reply is
sent, and reads the straps then after a RESTART. A frame of another code than the row's is another row's command (log 22). -/
def Obligations.TrunkPortCommands : Prop :=
  (∀ s : State, exec .trunkFrameDropped s = .next s) ∧
  (∀ (s : State) (dst src : Byte) (rest : List Byte),
    let requests : List (Byte → List Byte → Instr) :=
      [.status, .readChannel, .readZone, .readGroup, .readFan, .readNode, .readTable, .writeTable, .hold, .discard, .save,
        .run, .standby, .restart, .acknowledge, .pushOverride, .popOverride, .fanReset, .fetchEvents, .pass, .collect]
    let received : Reception := receive 120 (dst :: src :: rest)
    (¬ s.Listening ∨ received = .malformed ∨ received = .crcError ∨ received = .unfinished ∨
      dst ≠ s.station ∨ dst = 127) →
    exec (.unknownRequest dst src rest) s = .next s ∧
      ∀ request ∈ requests, exec (request dst (src :: rest)) s = .next s) ∧
  (∀ (s : State) (src code : Byte) (payload : List Byte), s.Listening → payload.length ≤ 120 →
    code.toNat ∉ [0x40, 0x41, 0x42, 0x43, 0x44, 0x45, 0x46, 0x50, 0x51, 0x52, 0x53, 0x58, 0x59, 0x5A, 0x60, 0x61, 0x62, 0x63,
      0x68, 0x70, 0x71] →
    exec (.unknownRequest s.station src (s.asked code src payload).tail) s = .next (answered code src .badRequest [] s)) ∧
  ∀ (s : State) (straps : BitVec 7) (rate : Bool) (reply : Frame), s.inReset = false →
    (s.trunkPort = .answering reply false →
      exec (.replySent straps rate) s = .next { s with trunkPort := .listening }) ∧
    (s.trunkPort = .answering reply true →
      exec (.replySent straps rate) s =
        .next { s with trunkPort := .listening, trunkAddress := straps, trunkRate := rate })

/-- R170 stage 2, R181 (parts): a request that carries data where the catalog gives none, or whose data is of another length
than the catalog gives, is answered BAD_REQUEST and changes nothing else; after a FAN-RESET, PUSH-OVERRIDE, POP-OVERRIDE or HOLD
a completion that waits goes on, if what it waited for no longer stands (log 1). -/
def Obligations.RequestsOfAnotherFormAreRefused : Prop :=
  ∀ (s : State) (src : Byte) (payload : List Byte), s.Listening → payload.length ≤ 120 →
    (payload ≠ [] →
      exec (.status s.station (s.asked 0x40 src payload)) s = .next (answered 0x40 src .badRequest [] s) ∧
      exec (.discard s.station (s.asked 0x52 src payload)) s = .next (answered 0x52 src .badRequest [] s) ∧
      exec (.save s.station (s.asked 0x53 src payload)) s = .next (answered 0x53 src .badRequest [] s) ∧
      exec (.run s.station (s.asked 0x58 src payload)) s = .next (answered 0x58 src .badRequest [] s) ∧
      exec (.standby s.station (s.asked 0x59 src payload)) s = .next (answered 0x59 src .badRequest [] s) ∧
      exec (.restart s.station (s.asked 0x5A src payload)) s = .next (answered 0x5A src .badRequest [] s) ∧
      exec (.fetchEvents s.station (s.asked 0x68 src payload)) s = .next (answered 0x68 src .badRequest [] s) ∧
      exec (.collect s.station (s.asked 0x71 src payload)) s = .next (answered 0x71 src .badRequest [] s)) ∧
    (payload.length ≠ 1 →
      exec (.readChannel s.station (s.asked 0x41 src payload)) s = .next (answered 0x41 src .badRequest [] s) ∧
      exec (.readZone s.station (s.asked 0x42 src payload)) s = .next (answered 0x42 src .badRequest [] s) ∧
      exec (.readGroup s.station (s.asked 0x43 src payload)) s = .next (answered 0x43 src .badRequest [] s) ∧
      exec (.readFan s.station (s.asked 0x44 src payload)) s = .next (answered 0x44 src .badRequest [] s) ∧
      exec (.readNode s.station (s.asked 0x45 src payload)) s = .next (answered 0x45 src .badRequest [] s) ∧
      exec (.acknowledge s.station (s.asked 0x60 src payload)) s = .next (answered 0x60 src .badRequest [] s) ∧
      exec (.hold s.station (s.asked 0x51 src payload)) s = .next (runWork s.work (answered 0x51 src .badRequest [] s)) ∧
      exec (.popOverride s.station (s.asked 0x62 src payload)) s =
        .next (runWork s.work (answered 0x62 src .badRequest [] s)) ∧
      exec (.fanReset s.station (s.asked 0x63 src payload)) s =
        .next (runWork s.work (answered 0x63 src .badRequest [] s))) ∧
    (payload.length ≠ 3 →
      exec (.readTable s.station (s.asked 0x46 src payload)) s = .next (answered 0x46 src .badRequest [] s)) ∧
    (payload.length ≠ 7 → exec (.pushOverride s.station (s.asked 0x61 src payload)) s =
      .next (runWork s.work (answered 0x61 src .badRequest [] s))) ∧
    (payload.length < 3 →
      exec (.writeTable s.station (s.asked 0x50 src payload)) s = .next (answered 0x50 src .badRequest [] s)) ∧
    (payload.length < 2 →
      exec (.pass s.station (s.asked 0x70 src payload)) s = .next (answered 0x70 src .badRequest [] s))

/-- R171 (a part): the attention byte, bit by bit, and its place in every reply: whatever command makes the port answer, the
second byte of the reply's payload is the attention byte of the state the command leaves, when no survey completion waits to
go on after the request (log 1). -/
def Obligations.AttentionByteBits : Prop :=
  ∀ s : State,
    ((attention s).getLsbD 0 = true ↔ ∃ z : Fin 16, (s.zones[z].gas = .alarm ∧ s.zones[z].alarmAck = false) ∨
      ((s.zones[z].spill = .wet ∨ s.zones[z].spill = .latched) ∧ s.zones[z].spillAck = false)) ∧
    ((attention s).getLsbD 1 = true ↔ 1 ≤ s.events.length) ∧ ((attention s).getLsbD 2 = true ↔ 40 ≤ s.events.length) ∧
    ((attention s).getLsbD 3 = true ↔ 1 ≤ s.changes.length) ∧ ((attention s).getLsbD 4 = true ↔ s.hold = true) ∧
    ((attention s).extractLsb' 5 2).toNat = (match s.mode with | .standby => 0 | .warmup => 1 | .run => 2) ∧
    (attention s).getLsbD 7 = false ∧
    (∀ (code src : Byte) (a : Answer), (replyFrame code src a).payload[1]? = some (attention a.state)) ∧
    ∀ (c : Instr) (t : State) (reply : Frame) (straps : Bool), exec c s = .next t → s.trunkPort = .listening →
      t.trunkPort = .answering reply straps → s.work = [] → reply.payload[1]? = some (attention t)

/-! ## Reads -/

/-- R172, R183 (parts): STATUS is answered DONE in every mode with 57 bytes, laid out as the table of R183 gives, and
changes nothing else. -/
def Obligations.StatusReturnsTheSummary : Prop :=
  ∀ (s : State) (src : Byte), s.Listening →
    ∃ data, exec (.status s.station (s.asked 0x40 src [])) s = .next (answered 0x40 src .done data s) ∧ data.length = 57 ∧
      data.take 17 =
        [byteOf s.mode.code, byteOf s.warmupLeft, byteOf s.segment.code,
          byteOf (s.outputs.chargePermit.toNat + 2 * s.outputs.ventProven.toNat + 4 * s.outputs.beacon.toNat +
            8 * s.outputs.healthy.toNat),
          byteOf (s.storeValid.toNat + 2 * s.save.isSome.toNat + 4 * s.hold.toNat)] ++ halfOf s.holdCount ++
        [byteOf s.changes.length, byteOf s.events.length, byteOf s.lost, byteOf s.transits.length,
          byteOf (s.pollList.countP fun e => e.state == .offline), byteOf s.pollList.length] ++ wordBytes s.cycleCount ∧
      (∀ z : Fin 16,
        data[17 + 2 * z.val]? = some (byteOf (s.zones[z].gas.code + 8 * s.zones[z].spill.code +
          32 * s.zones[z].alarmAck.toNat + 64 * s.zones[z].spillAck.toNat)) ∧
        data[18 + 2 * z.val]? = some (byteOf (s.zones[z].rising.toNat + 2 * s.zones[z].purge.toNat +
          4 * s.zones[z].equalize.toNat + 8 * s.zones[z].noSense.toNat + 16 * s.zones[z].spillBlind.toNat +
          32 * s.tables.zones[z].enabled.toNat))) ∧
      ∀ g : Fin 4,
        data[49 + 2 * g.val]? = some (byteOf (s.groups[g].commanded + 16 * s.groups[g].condition.code +
          64 * s.groups[g].handOver.toNat)) ∧
        data[50 + 2 * g.val]? = some (byteOf (s.groups[g].floor + 16 * s.groups[g].stack.length))

/-- R38, R67, R102, R118, R151, R181 (parts): the reads of one record return it in the layout of R181 and change nothing
else; a number above the last record's, or a node address outside 1..126, is refused BAD_INDEX. That a set flag reads 1 and
CLOSED reads 1 is the model's choice (log 12). -/
def Obligations.RecordReadsReturnTheRecord : Prop :=
  ∀ (s : State) (src : Byte), s.Listening →
    (∀ i : Fin 64,
      let b := s.tables.bindings[i]
      let c := s.channels[i]
      exec (.readChannel s.station (s.asked 0x41 src [byteOf i.val])) s = .next (answered 0x41 src .done
        ([byteOf b.kind.code, byteOf b.zone.val, byteOf c.health.code] ++ halfOf c.filtered ++ halfOf c.conditioned ++
          halfOf c.raw ++ [byteOf c.contact.code, byteOf (c.lowClamp.toNat + 2 * c.overrange.toNat), byteOf c.age,
            byteOf c.settleLeft, byteOf c.mark.code]) s)) ∧
    (∀ z : Fin 16,
      let e := s.tables.zones[z]
      let r := s.zones[z]
      exec (.readZone s.station (s.asked 0x42 src [byteOf z.val])) s = .next (answered 0x42 src .done
        ([flagByte e.enabled, byteOf r.gas.code] ++ halfOf r.reading ++
          [byteOf r.healthy, byteOf r.settling, byteOf r.bound, byteOf r.alarmVotes, byteOf r.effectiveVote,
            byteOf (r.rising.toNat + 2 * r.purge.toNat + 4 * r.equalize.toNat + 8 * r.noSense.toNat +
              16 * r.spillBlind.toNat + 32 * e.enabled.toNat),
            flagByte r.alarmAck, byteOf r.spill.code, flagByte r.spillAck, byteOf r.ring.length] ++
          (r.ring.take 8 ++ List.replicate (8 - r.ring.length) 0).flatMap halfOf) s)) ∧
    (∀ g : Fin 4,
      let r := s.groups[g]
      exec (.readGroup s.station (s.asked 0x43 src [byteOf g.val])) s = .next (answered 0x43 src .done
        ([byteOf r.demand, byteOf r.floor, byteOf r.effective, byteOf r.commanded] ++ halfOf r.runOn ++
          [flagByte r.handOver, flagByte (groupEnabled s.tables g), byteOf r.condition.code, byteOf r.runSet.length] ++
          padTo 4 0xFF (r.runSet.map fun f => byteOf f.val) ++ [byteOf r.stack.length] ++
          padTo 24 0 (r.stack.reverse.flatMap fun c =>
            [byteOf c.kind.code, byteOf c.stage] ++ halfOf c.expiry ++ halfBytes c.tag)) s)) ∧
    (∀ f : Fin 8,
      let e := s.tables.fans[f]
      let r := s.fans[f]
      exec (.readFan s.station (s.asked 0x44 src [byteOf f.val])) s = .next (answered 0x44 src .done
        (encodeFan e ++ [byteOf r.state.code, byteOf r.timer, byteOf r.streak, byteOf r.reason.code, byteOf r.setpoint,
            flagByte (s.groups[e.group].runSet.contains f)] ++
          (match e.airflowSlot with
           | some i => byteOf s.channels[i].health.code :: halfOf s.channels[i].filtered
           | none => 0xFF :: halfOf 0)) s)) ∧
    (∀ a : Byte, 1 ≤ a.toNat → a.toNat ≤ 126 →
      (∀ e, s.pollList.find? (fun e => e.address == a.toNat) = some e →
        exec (.readNode s.station (s.asked 0x45 src [a])) s = .next (answered 0x45 src .done
          [1, flagByte e.fan.isSome, e.mask, optionByte e.fan, byteOf e.state.code, byteOf e.miss, byteOf e.errors] s)) ∧
      ((∀ e ∈ s.pollList, e.address ≠ a.toNat) →
        exec (.readNode s.station (s.asked 0x45 src [a])) s = .next (answered 0x45 src .done [0] s))) ∧
    ∀ a : Byte,
      (64 ≤ a.toNat → exec (.readChannel s.station (s.asked 0x41 src [a])) s = .next (answered 0x41 src .badIndex [] s)) ∧
      (16 ≤ a.toNat → exec (.readZone s.station (s.asked 0x42 src [a])) s = .next (answered 0x42 src .badIndex [] s)) ∧
      (4 ≤ a.toNat → exec (.readGroup s.station (s.asked 0x43 src [a])) s = .next (answered 0x43 src .badIndex [] s)) ∧
      (8 ≤ a.toNat → exec (.readFan s.station (s.asked 0x44 src [a])) s = .next (answered 0x44 src .badIndex [] s)) ∧
      (a.toNat = 0 ∨ 127 ≤ a.toNat → exec (.readNode s.station (s.asked 0x45 src [a])) s =
        .next (answered 0x45 src .badIndex [] s))

/-- R173, R5 (parts): READ-TABLE returns the block's entries in ascending index, a BINDINGS entry with its bucket and chain
position, and changes nothing else; a block that leaves the table is refused BAD_INDEX and a count outside 1..8 or an unknown
table BAD_REQUEST. -/
def Obligations.ReadTableReturnsTheBlock : Prop :=
  ∀ (s : State) (src : Byte), s.Listening →
    (∀ (tb : TableId) (start n : Nat), 1 ≤ n → n ≤ 8 → start + n ≤ tableSize tb →
      exec (.readTable s.station (s.asked 0x46 src [byteOf tb.code, byteOf start, byteOf n])) s = .next (answered 0x46 src .done
        ([byteOf tb.code, byteOf start, byteOf n] ++
          (List.range n).flatMap fun k => (readEntry s tb (start + k)).getD []) s)) ∧
    (∀ (tb : TableId) (start n : Byte), 1 ≤ n.toNat → n.toNat ≤ 8 → tableSize tb < start.toNat + n.toNat →
      exec (.readTable s.station (s.asked 0x46 src [byteOf tb.code, start, n])) s = .next (answered 0x46 src .badIndex [] s)) ∧
    (∀ tb start n : Byte, (tb.toNat = 0 ∨ 5 < tb.toNat ∨ n.toNat = 0 ∨ 8 < n.toNat) →
      exec (.readTable s.station (s.asked 0x46 src [tb, start, n])) s = .next (answered 0x46 src .badRequest [] s)) ∧
    (KeysLaw s → ∀ i : Fin 64,
      let b := s.tables.bindings[i]
      let k : Fin 16 := bucketOf b.node b.point.val
      readEntry s .bindings i.val = some (encodeBinding b ++
        [byteOf ((b.node + 7 * b.point.val) % 16), if b.valid then byteOf (s.chains[k].idxOf i) else 0xFF])) ∧
    (∀ z : Fin 16, readEntry s .zones z.val = some (encodeZone s.tables.zones[z])) ∧
    (∀ g : Fin 4, readEntry s .groups g.val = some (encodeGroup s.tables.groups[g])) ∧
    (∀ f : Fin 8, readEntry s .fans f.val = some (encodeFan s.tables.fans[f])) ∧
    readEntry s .device 0 = some (encodeDevice s.tables.device)

/-! ## The change list -/

/-- R156, R182 (parts): a WRITE-TABLE of one to eight entries with their fields in range, for indexes that follow one
another within the table, appends them to the list in order: all of them with DONE and their number, or as many as the list
has room for with PARTIAL, the number taken and the number remaining. Nothing else changes. -/
def Obligations.WriteTableAppendsItsEntries : Prop :=
  ∀ (s : State) (src : Byte) (tb : TableId) (start : Nat) (cs : List Change), s.Listening →
    1 ≤ cs.length → cs.length ≤ 8 → (∀ c ∈ cs, c.InRange ∧ c.table = tb) →
    (∀ (k : Nat) (h : k < cs.length), (cs[k]'h).index = start + k) → (tb = .device → s.mode = .standby) →
    s.changes.length ≤ 32 →
    let n := cs.length
    let room := 32 - s.changes.length
    exec (.writeTable s.station (s.asked 0x50 src ([byteOf tb.code, byteOf start, byteOf n] ++ cs.flatMap Change.bytes))) s =
      .next (if n ≤ room then answered 0x50 src .done [byteOf n] { s with changes := s.changes ++ cs }
        else answered 0x50 src .partly [byteOf room, byteOf (n - room)] { s with changes := s.changes ++ cs.take room })

/-- R156, R158, R170, R181 (parts): a DEVICE entry outside STANDBY is NOT_NOW; an unknown table, a count outside 1..8, a payload
of another length, or an unassigned bit set in a flags byte is BAD_REQUEST. A block of any table stops at its first entry that is
the layout of no entry within its ranges for an index of the table: the entries before it stay in the list, and the answer is
BAD_INDEX with their number and the failing position, also where the list has just become full. HOLD on and off set and clear
hold and set the count to 0, and any other HOLD byte is BAD_REQUEST. The model's readings in this: a completion that waited for
the hold's end goes on after a HOLD (log 1); the failing position is counted from 0 (log 34); and a DEVICE entry whose field rate
byte is neither 0 nor 1 is the layout of no entry within its ranges, so that it is BAD_INDEX too (log 28). Nothing is said here
of an entry with an unassigned bit set in another packed byte (log 11). -/
def Obligations.WriteTableAndHoldAnswers : Prop :=
  ∀ (s : State) (src : Byte), s.Listening →
    (∀ e : DeviceEntry, e.inRange = true → s.mode ≠ .standby →
      exec (.writeTable s.station (s.asked 0x50 src ([5, 0, 1] ++ encodeDevice e))) s = .next (answered 0x50 src .notNow [] s)) ∧
    (∀ (tb start n : Byte) (body : List Byte), body.length ≤ 117 →
      (tb.toNat = 0 ∨ 5 < tb.toNat ∨ n.toNat = 0 ∨ 8 < n.toNat ∨
        ∃ t : TableId, tb = byteOf t.code ∧ body.length ≠ n.toNat * entrySize t) →
      exec (.writeTable s.station (s.asked 0x50 src (tb :: start :: n :: body))) s = .next (answered 0x50 src .badRequest [] s)) ∧
    (∀ (start : Byte) (e : GroupEntry), (4 ≤ start.toNat ∨ e.inRange = false) → e.proofTimeout < 256 →
      e.runCount < 256 → e.runOn < 65536 → (∀ i : Fin 4, e.speed[i] < 256) →
      e.stageMap.inRange = true →
      exec (.writeTable s.station (s.asked 0x50 src ([3, start, 1] ++ encodeGroup e))) s =
        .next (answered 0x50 src .badIndex [0, 0] s)) ∧
    (∀ (t : TableId) (start n : Byte) (body : List Byte) (k : Nat), body.length = n.toNat * entrySize t → n.toNat ≤ 8 →
      k < n.toNat →
      (let at_ (j : Nat) : Byte := body.getD (k * entrySize t + j) 0
       match t with
       | .bindings => 16 ≤ (at_ 0).toNat
       | .zones => (at_ 0).getLsbD 2 = true ∨ (at_ 0).getLsbD 3 = true
       | .groups => False
       | .fans => 2 ≤ (at_ 0).toNat
       | .device => 2 ≤ (at_ 8).toNat) →
      exec (.writeTable s.station (s.asked 0x50 src (byteOf t.code :: start :: n :: body))) s =
        .next (answered 0x50 src .badRequest [] s)) ∧
    (∀ (t : TableId) (start : Nat) (cs : List Change) (failing : List Byte) (rest : List (List Byte)), start < 256 →
      (∀ c ∈ cs, c.InRange ∧ c.table = t) → (∀ (k : Nat) (h : k < cs.length), (cs[k]'h).index = start + k) →
      (t = .device → s.mode = .standby) → s.changes.length + cs.length ≤ 32 → cs.length + 1 + rest.length ≤ 8 →
      (∀ bs ∈ failing :: rest, bs.length = entrySize t ∧ strayFlags t bs = false ∧ strayPacked t bs = false) →
      (∀ c : Change, c.InRange → c.table = t → c.index = start + cs.length → c.bytes ≠ failing) →
      let n := cs.length + 1 + rest.length
      exec (.writeTable s.station (s.asked 0x50 src
          ([byteOf t.code, byteOf start, byteOf n] ++ cs.flatMap Change.bytes ++ failing ++ rest.flatten))) s =
        .next (answered 0x50 src .badIndex [byteOf cs.length, byteOf cs.length] { s with changes := s.changes ++ cs })) ∧
    exec (.hold s.station (s.asked 0x51 src [1])) s =
      .next (runWork s.work (answered 0x51 src .done [] { s with hold := true, holdCount := 0 })) ∧
    exec (.hold s.station (s.asked 0x51 src [0])) s =
      .next (runWork s.work (answered 0x51 src .done [] { s with hold := false, holdCount := 0 })) ∧
    ∀ b : Byte, 2 ≤ b.toNat →
      exec (.hold s.station (s.asked 0x51 src [b])) s = .next (runWork s.work (answered 0x51 src .badRequest [] s))

/-- R157: a DISCARD empties the list and is answered DONE with the number of records it removed, in every mode; hold, the
hold count and the event queue, and everything else, stay as they are. -/
def Obligations.DiscardEmptiesTheList : Prop :=
  ∀ (s : State) (src : Byte), s.Listening →
    exec (.discard s.station (s.asked 0x52 src [])) s =
      .next (answered 0x52 src .done [byteOf s.changes.length] { s with changes := [] })

/-! ## Modes -/

/-- R185, R184, R148, R65, R76, R100, R117, R147 (parts): RUN is answered DONE; in WARMUP and RUN it changes nothing; in STANDBY
it takes the apply point, which leaves `a` (ApplyPointsTakeTheWholeList), and enters WARMUP from there: the warmup count is loaded
from the DEVICE entry as the apply point left it, MODE_CHANGE and SEGMENT_STATE are posted behind the events of the apply point,
the timer started, every enabled zone NORMAL, each group's demand, floor and effective stage formed, the hand-over judged, and the
segment WAITING, or RELEASED with SERVICE_RELEASE when the line is acted on and asserted. Channels, tables, fans outside a
hand-over and the change list stay as `a` has them. A DEVICE record that stands last in a list that is taken is the DEVICE entry,
and its warmup count the one loaded. -/
def Obligations.RunEntersWarmup : Prop :=
  ∀ (s : State) (src : Byte), s.Listening →
    (s.mode ≠ .standby → exec (.run s.station (s.asked 0x58 src [])) s = .next (answered 0x58 src .done [] s)) ∧
    (s.mode = .standby → StandbyLaw s →
      let a := applyPoint s
      ∃ t, exec (.run s.station (s.asked 0x58 src [])) s = .next (answered 0x58 src .done [] t) ∧ t.mode = .warmup ∧
        t.warmupLeft = a.tables.device.warmupCount ∧ t.timerOn = true ∧
        t.segment = (if a.tables.device.releaseEnable && s.releaseLine then .released else .waiting) ∧
        Posted a t .modeChange 0 (detailOf Mode.warmup.code Mode.standby.code) ∧
        Posted a t .segmentState 0 (detailOf t.segment.code Segment.idle.code) ∧
        (t.segment = .released → Posted a t .serviceRelease 0 (detailOf 0 1)) ∧
        (∀ z : Fin 16, t.zones[z] = ZoneRecord.cleared (if a.tables.zones[z].enabled then .normal else .inactive)) ∧
        (∀ g : Fin 4, t.groups[g].demand = max a.tables.groups[g].stageMap.base a.tables.groups[g].stageMap.warmup ∧
          t.groups[g].floor = 0 ∧ t.groups[g].commanded = 0 ∧ t.groups[g].runOn = s.groups[g].runOn ∧
          t.groups[g].stack = s.groups[g].stack ∧ t.groups[g].effective = effectiveOf .warmup t.groups[g] ∧
          (t.groups[g].handOver = true ↔ ∃ c cs, s.groups[g].stack = c :: cs ∧ c.kind = .manual)) ∧
        (∀ f : Fin 8, t.fans[f].state =
          if t.groups[a.tables.fans[f].group].handOver = true ∧ a.tables.fans[f].enabled = true then .manual
          else a.fans[f].state) ∧
        t.channels = a.channels ∧ t.tables = a.tables ∧ t.chains = a.chains ∧ t.changes = a.changes ∧
        t.pollList = a.pollList ∧ t.transits = s.transits ∧ t.cycleCount = s.cycleCount ∧ t.outputs = Outputs.off ∧
        ∀ (cs : List Change) (d : DeviceEntry), s.hold = false → s.save = none → s.changes = cs ++ [.device d] →
          t.tables.device = d ∧ t.warmupLeft = d.warmupCount ∧ t.changes = [])

/-- R187, R184, R148, R149, R36, R66, R99, R117, R177, R127 (parts): STANDBY is answered DONE; in STANDBY it changes nothing; in
WARMUP and RUN it enters STANDBY with MODE_CHANGE from the mode before, SEGMENT_STATE from a segment state other than IDLE, and
every block's records at their STANDBY-entry values, the stacks, the failures, the error
counts, the change list, the tables, the store and the cycle count kept. -/
def Obligations.StandbyEntryRestartsTheRecords : Prop :=
  ∀ (s : State) (src : Byte), s.Listening →
    (s.mode = .standby → exec (.standby s.station (s.asked 0x59 src [])) s = .next (answered 0x59 src .done [] s)) ∧
    (s.mode ≠ .standby →
      ∃ t, exec (.standby s.station (s.asked 0x59 src [])) s =
        .next (answered 0x59 src .done [] t) ∧ t.mode = .standby ∧ t.warmupLeft = 0 ∧
        Posted s t .modeChange 0 (detailOf Mode.standby.code s.mode.code) ∧
        (s.segment ≠ .idle → Posted s t .segmentState 0 (detailOf Segment.idle.code s.segment.code)) ∧
        t.segment = .idle ∧ t.transaction = none ∧ t.timerOn = false ∧ t.deferredTick = false ∧ t.countdown = 0 ∧
        t.contention = 0 ∧ t.work = [] ∧
        t.pollList = (s.pollList.map fun e => { e with state := .unknown, miss := 0 }) ∧
        t.transits = (s.transits.map fun e =>
          if e.state = .waiting ∨ e.state = .sent then { e with state := .done .cancelled } else e) ∧
        (∀ i : Fin 64, t.channels[i] =
          ChannelRecord.restarted (if s.tables.bindings[i].valid then .unseen else .disabled)) ∧
        (∀ z : Fin 16, t.zones[z] = ZoneRecord.cleared .inactive) ∧
        (∀ g : Fin 4, t.groups[g].demand = 0 ∧ t.groups[g].floor = 0 ∧ t.groups[g].effective = 0 ∧
          t.groups[g].commanded = 0 ∧ t.groups[g].runOn = 0 ∧ t.groups[g].handOver = false ∧
          t.groups[g].stack = s.groups[g].stack) ∧
        (∀ f : Fin 8, t.fans[f].state = (if s.fans[f].reason = .none then .off else .failed) ∧
          t.fans[f].reason = s.fans[f].reason ∧ t.fans[f].timer = 0 ∧ t.fans[f].streak = 0 ∧ t.fans[f].setpoint = 0) ∧
        t.outputs = Outputs.off ∧ t.tables = s.tables ∧ t.chains = s.chains ∧ t.changes = s.changes ∧ t.hold = s.hold ∧
        t.holdCount = s.holdCount ∧ t.store = s.store ∧ t.storeValid = s.storeValid ∧ t.save = s.save ∧
        t.cycleCount = s.cycleCount ∧ t.transitCount = s.transitCount)

/-- R189 (a part): a RESTART with no SAVE in flight leaves every runtime record at its reset value for the kept tables, and
keeps the tables, the chains with their order, the store and store-valid; one STARTED event is queued, and the reply's
attention byte shows STANDBY, an event waiting and nothing pending. The straps are read once the reply is sent. -/
def Obligations.RestartKeepsTheTables : Prop :=
  ∀ (s : State) (src : Byte), s.Listening → s.save = none →
    exec (.restart s.station (s.asked 0x5A src [])) s =
      .next { State.reset with
        pending := s.pending, draws := s.draws, tables := s.tables, chains := s.chains
        channels := Vector.ofFn fun i : Fin 64 =>
          ChannelRecord.restarted (if s.tables.bindings[i].valid then .unseen else .disabled)
        groups := computedRunSets s.tables (Vector.replicate 8 FanRecord.cleared) (Vector.replicate 4 GroupRecord.cleared)
        pollList := rebuiltList s.tables [], store := s.store, storeValid := s.storeValid
        trunkAddress := s.trunkAddress, trunkRate := s.trunkRate, releaseLine := s.releaseLine
        events := [{ kind := .started, subject := 0, detail := detailOf 0 s.storeValid.toNat, stamp := 0, repeats := 1 }]
        trunkPort := .answering
          { dst := src, src := s.trunkAddress.setWidth 8, kind := 0x5A, payload := [0, 0x02] } true }

/-! ## Operating requests -/

/-- R53, R73, R125 (parts): an ACKNOWLEDGE sets ALARM_ACK on each named zone in ALARM and SPILL_ACK on each named zone in
WET or LATCHED, the beacon is judged, and nothing else changes; a zone number of 16 to 254 is refused BAD_INDEX. -/
def Obligations.AcknowledgeSetsTheFlags : Prop :=
  ∀ (s : State) (src : Byte), s.Listening →
    let named (r : ZoneRecord) : ZoneRecord := { r with
      alarmAck := r.alarmAck || r.gas == .alarm
      spillAck := r.spillAck || r.spill == .wet || r.spill == .latched }
    (∀ z : Fin 16, ∃ t, exec (.acknowledge s.station (s.asked 0x60 src [byteOf z.val])) s = .next (answered 0x60 src .done [] t) ∧
      t = { s with zones := s.zones.set z (named s.zones[z]), outputs := { s.outputs with beacon := beaconFunction t } }) ∧
    (∃ t, exec (.acknowledge s.station (s.asked 0x60 src [0xFF])) s = .next (answered 0x60 src .done [] t) ∧
      (∀ z : Fin 16, t.zones[z] = named s.zones[z]) ∧
      t = { s with zones := t.zones, outputs := { s.outputs with beacon := beaconFunction t } }) ∧
    ∀ b : Byte, 16 ≤ b.toNat → b.toNat ≤ 254 →
      exec (.acknowledge s.station (s.asked 0x60 src [b])) s = .next (answered 0x60 src .badIndex [] s)

/-- R90, R91, R84, R93 to R95, R114 (parts): a push puts the context on top and answers its depth, a pop removes the top and
returns it; the effective stage is recomputed and the hand-over judged at once, with its effect on the fans, and the other stages,
the other groups, the zones, the channels and the tables stay. That a fan without an airflow slot that is taken back above stage 0
posts one FAN_STATE, from MANUAL to RUNNING, is the model's choice (log 41). The
refusals come in R90's order and change nothing: an unknown kind, or a FORCE of a stage above 4, is BAD_REQUEST whatever the
group; else a group above 3 is BAD_INDEX; else a full stack is FULL. A pop of a group above 3 is BAD_INDEX, and of an empty stack
EMPTY. A completion that waits goes on after the request, if what it waited for no longer stands (log 1). -/
def Obligations.PushesAndPopsActOnTheTop : Prop :=
  ∀ (s : State) (src : Byte) (g : Fin 4), s.Listening →
    (∀ (k : OverrideKind) (stage : Byte) (expiry tag : Half), (k = .force → stage.toNat ≤ 4) →
      let payload : List Byte := [byteOf g.val, byteOf k.code, stage] ++ halfBytes expiry ++ halfBytes tag
      let held : Nat := match k with | .force => stage.toNat | .hold => s.groups[g].commanded | .manual => 0
      (s.groups[g].stack.length < 4 →
        ∃ t, exec (.pushOverride s.station (s.asked 0x61 src payload)) s =
            .next (runWork s.work (answered 0x61 src .done [byteOf (s.groups[g].stack.length + 1)] t)) ∧
          t.groups[g].stack = { kind := k, stage := held, expiry := expiry.toNat, tag := tag } :: s.groups[g].stack ∧
          t.groups[g].effective =
            (if s.mode = .standby then 0 else if k = .manual then s.groups[g].floor else max held s.groups[g].floor) ∧
          t.groups[g].demand = s.groups[g].demand ∧ t.groups[g].floor = s.groups[g].floor ∧
          t.groups[g].commanded = s.groups[g].commanded ∧ t.groups[g].runOn = s.groups[g].runOn ∧
          HandOverJudged s t g ∧
          (∀ g' : Fin 4, g' ≠ g → t.groups[g'] = s.groups[g']) ∧ t.zones = s.zones ∧ t.channels = s.channels ∧
          t.tables = s.tables ∧ t.mode = s.mode ∧ t.segment = s.segment ∧ t.changes = s.changes) ∧
      (4 ≤ s.groups[g].stack.length →
        exec (.pushOverride s.station (s.asked 0x61 src payload)) s = .next (runWork s.work (answered 0x61 src .full [] s)))) ∧
    (∀ (group kind stage : Byte) (expiry tag : Half),
      let payload : List Byte := [group, kind, stage] ++ halfBytes expiry ++ halfBytes tag
      let refused (r : Result) : State := runWork s.work (answered 0x61 src r [] s)
      let badKind : Prop := 3 ≤ kind.toNat ∨ (kind = byteOf OverrideKind.force.code ∧ 5 ≤ stage.toNat)
      (badKind → exec (.pushOverride s.station (s.asked 0x61 src payload)) s = .next (refused .badRequest)) ∧
      (¬ badKind → 4 ≤ group.toNat →
        exec (.pushOverride s.station (s.asked 0x61 src payload)) s = .next (refused .badIndex))) ∧
    (∀ group : Byte, 4 ≤ group.toNat → exec (.popOverride s.station (s.asked 0x62 src [group])) s =
      .next (runWork s.work (answered 0x62 src .badIndex [] s))) ∧
    (s.groups[g].stack = [] → exec (.popOverride s.station (s.asked 0x62 src [byteOf g.val])) s =
      .next (runWork s.work (answered 0x62 src .empty [] s))) ∧
    ∀ (c : Context) (cs : List Context), s.groups[g].stack = c :: cs →
      ∃ t, exec (.popOverride s.station (s.asked 0x62 src [byteOf g.val])) s = .next (runWork s.work (answered 0x62 src .done
          ([byteOf c.kind.code, byteOf c.stage] ++ halfOf c.expiry ++ halfBytes c.tag) t)) ∧
        t.groups[g].stack = cs ∧ t.groups[g].effective = effectiveOf s.mode { s.groups[g] with stack := cs } ∧
        HandOverJudged s t g ∧
        t.groups[g].demand = s.groups[g].demand ∧ t.groups[g].floor = s.groups[g].floor ∧
        t.groups[g].commanded = s.groups[g].commanded ∧ t.groups[g].runOn = s.groups[g].runOn ∧
        (∀ g' : Fin 4, g' ≠ g → t.groups[g'] = s.groups[g']) ∧ t.zones = s.zones ∧ t.channels = s.channels ∧
        t.tables = s.tables ∧ t.mode = s.mode ∧ t.segment = s.segment ∧ t.changes = s.changes

/-- R113, R105 to R107 (parts): a FAN-RESET of a fan that is not FAILED is answered DONE and changes nothing; of a FAILED one, it
clears the reason, recomputes the run set of its group, and starts the fan at once when it joins the run set with the
commanded stage above 0, and else leaves it OFF. The other groups, the zones, the channels and the tables stay. A completion
that waits goes on after the request, if what it waited for no longer stands (log 1). And the recomputation itself, for every
group and state: the run set is the first fans, by the run count, of the enabled fans of the group that have not failed, by order
field and then number; the condition follows, and posts GROUP_CONDITION when it changes; a STARTING or RUNNING fan that leaves
goes OFF; an OFF fan that joins starts when the stage is above 0 and the group not under hand-over; no other fan changes. -/
def Obligations.FanResetReturnsTheFan : Prop :=
  (∀ (s : State) (g : Fin 4),
    let fits (f : Fin 8) : Bool := s.tables.fans[f].enabled && s.tables.fans[f].group == g && s.fans[f].reason == .none
    let eligible : List (Fin 8) := (List.finRange 4).flatMap fun o =>
      (List.finRange 8).filter fun f => fits f && s.tables.fans[f].order == o
    let count := s.tables.groups[g].runCount
    let old := s.groups[g].runSet
    let new := eligible.take count
    let condition : Condition :=
      if ∀ f : Fin 8, s.tables.fans[f].enabled = true → s.tables.fans[f].group ≠ g then .disabled
      else if new = [] then .unavailable else if new.length < count then .degraded else .full
    let t := recomputeRunSet g s
    selectRunSet s.tables s.fans g = new ∧ conditionOf s.tables g new.length = condition ∧
    t = { s with groups := s.groups.set g { s.groups[g] with runSet := new, condition := condition }, fans := t.fans
                 events := t.events, lost := t.lost, draws := t.draws, outputs := t.outputs } ∧
    (condition = s.groups[g].condition → t.outputs = s.outputs) ∧ FansPosted s t ∧
    (condition ≠ s.groups[g].condition → Posted s t .groupCondition g.val
      (detailOf (condition.code + 16 * s.groups[g].condition.code) new.length)) ∧
    ∀ f : Fin 8, t.fans[f] =
      if f ∈ old ∧ f ∉ new ∧ (s.fans[f].state = .starting ∨ s.fans[f].state = .running) then restingFan .off s.fans[f]
      else if f ∉ old ∧ f ∈ new ∧ s.fans[f].state = .off ∧ s.groups[g].handOver = false ∧ 0 < s.groups[g].commanded
        then startedFan s f
      else s.fans[f]) ∧
  ∀ (s : State) (src : Byte) (f : Fin 8), s.Listening →
    (s.fans[f].state ≠ .failed → exec (.fanReset s.station (s.asked 0x63 src [byteOf f.val])) s =
      .next (runWork s.work (answered 0x63 src .done [] s))) ∧
    (s.fans[f].state = .failed →
      let g := s.tables.fans[f].group
      ∃ t, exec (.fanReset s.station (s.asked 0x63 src [byteOf f.val])) s =
        .next (runWork s.work (answered 0x63 src .done [] t)) ∧ t.fans[f].reason = .none ∧
        t.groups[g].runSet =
          selectRunSet s.tables (s.fans.set f { s.fans[f] with state := .off, reason := .none }) g ∧
        (if f ∈ t.groups[g].runSet ∧ f ∉ s.groups[g].runSet ∧ s.groups[g].handOver = false ∧ 0 < s.groups[g].commanded
          then t.fans[f].state = (if s.tables.fans[f].airflowSlot.isSome then .starting else .running)
          else t.fans[f].state = .off) ∧
        t.groups[g].stack = s.groups[g].stack ∧ t.groups[g].commanded = s.groups[g].commanded ∧
        (∀ g' : Fin 4, g' ≠ g → t.groups[g'] = s.groups[g']) ∧ t.zones = s.zones ∧ t.channels = s.channels ∧
        t.tables = s.tables ∧ t.mode = s.mode ∧ t.segment = s.segment ∧ t.work = s.work) ∧
    ∀ b : Byte, 8 ≤ b.toNat →
      exec (.fanReset s.station (s.asked 0x63 src [b])) s = .next (runWork s.work (answered 0x63 src .badIndex [] s))

/-- R193: FETCH-EVENTS is answered DONE in every mode with the smaller of 8 and the queue's length, the lost count as it
stood, and the oldest records, oldest first, in the layout of R183; it removes them, sets the lost count to 0, and changes
nothing else. -/
def Obligations.FetchEventsReturnsTheOldest : Prop :=
  ∀ (s : State) (src : Byte), s.Listening →
    exec (.fetchEvents s.station (s.asked 0x68 src [])) s = .next (answered 0x68 src .done
      (byteOf (min 8 s.events.length) :: byteOf s.lost :: (s.events.take 8).flatMap fun e =>
        [byteOf e.kind.code, e.subject] ++ halfBytes e.detail ++ wordBytes e.stamp ++ [byteOf e.repeats])
      { s with events := s.events.drop 8, lost := 0 })

/-! ## Transit -/

/-- R175: the checks of PASS in their order, the first that fails giving the result, and the entry an accepted PASS appends;
the permit is R176's. -/
def Obligations.PassChecksAndAppends : Prop :=
  ∀ (s : State) (src dest : Byte) (k : FrameKind) (bs : List Byte), s.Listening → bs.length ≤ 118 →
    let formed : Prop := 1 ≤ dest.toNat ∧ dest.toNat ≤ 126 ∧
      (match k with
       | .query => bs.length = 1
       | .drive => bs.length = 2 ∧ (bs.getD 0 0).toNat ≤ 100
       | .config => 1 ≤ bs.length ∧ bs.length ≤ 56)
    let permit : Prop :=
      match k with
      | .query => True
      | .config => ∀ i : Fin 64, s.tables.bindings[i].valid = true → s.tables.bindings[i].node = dest.toNat →
          let z := s.zones[s.tables.bindings[i].zone]
          z.gas ≠ .alert ∧ z.gas ≠ .alarm ∧ z.gas ≠ .fault ∧ z.purge = false
      | .drive => ∃ f : Fin 8, s.tables.fans[f].enabled = true ∧ s.tables.fans[f].driveNode = dest.toNat ∧
          s.groups[s.tables.fans[f].group].handOver = true
    let request : Instr := .pass s.station (s.asked 0x70 src (dest :: byteOf k.code :: bs))
    (¬ formed → exec request s = .next (answered 0x70 src .badRequest [] s)) ∧
    (formed → s.mode = .standby → exec request s = .next (answered 0x70 src .notNow [] s)) ∧
    (formed → s.mode ≠ .standby → 4 ≤ s.transits.length → exec request s = .next (answered 0x70 src .full [] s)) ∧
    (formed → s.mode ≠ .standby → s.transits.length < 4 → ¬ permit →
      exec request s = .next (answered 0x70 src .denied [] s)) ∧
    (formed → s.mode ≠ .standby → s.transits.length < 4 → permit →
      exec request s = .next (answered 0x70 src .done [s.transitCount, byteOf (s.transits.length + 1)]
        { s with
          transits := s.transits ++ [{ sequence := s.transitCount, dest := dest.toNat, kind := k, payload := bs,
                                       state := .waiting, reading := [] }]
          transitCount := s.transitCount + 1 })) ∧
    ∀ code : Byte, code.toNat ∉ [0x10, 0x12, 0x13] →
      exec (.pass s.station (s.asked 0x70 src (dest :: code :: bs))) s = .next (answered 0x70 src .badRequest [] s)

/-- R178: COLLECT on an empty queue is EMPTY, on an oldest entry WAITING or SENT it is NOT_READY and the queue unchanged, and
on one that is DONE it removes the entry and returns its sequence number, destination, kind and result, and for REPLY the
reading; in every mode, and nothing else changes. -/
def Obligations.CollectTakesTheOldest : Prop :=
  ∀ (s : State) (src : Byte), s.Listening →
    (s.transits = [] → exec (.collect s.station (s.asked 0x71 src [])) s = .next (answered 0x71 src .empty [] s)) ∧
    ∀ (e : TransitEntry) (es : List TransitEntry), s.transits = e :: es →
      (e.state = .waiting ∨ e.state = .sent → exec (.collect s.station (s.asked 0x71 src [])) s =
        .next (answered 0x71 src .notReady [] s)) ∧
      ∀ r : TransitResult, e.state = .done r →
        exec (.collect s.station (s.asked 0x71 src [])) s = .next (answered 0x71 src .done
          ([e.sequence, byteOf e.dest, byteOf e.kind.code, byteOf r.code] ++ if r = .reply then e.reading else [])
          { s with transits := es })

/-! ## What the blocks compute -/

/-- R19 to R21: the conditioned value is the product divided by 256 with floor rounding, within −8175..73694; stage 2's four
rows; and a smoothing step that never overshoots, with a filtered value that reaches a constant C in finitely many samples. -/
def Obligations.ConditioningAndSmoothing : Prop :=
  (∀ (b : Binding) (raw : Nat), b.inRange = true → raw ≤ 4095 →
    let c := conditionRaw b raw
    256 * c ≤ ((raw : Int) - b.zeroOffset) * b.span ∧ ((raw : Int) - b.zeroOffset) * b.span < 256 * c + 256 ∧
      -8175 ≤ c ∧ c ≤ 73694) ∧
  (∀ c : Int,
    (c < -50 → limit c = none) ∧
    (-50 ≤ c → c < 0 → limit c = some { value := 0, lowClamp := true, overrange := false }) ∧
    (0 ≤ c → c ≤ 1000 → limit c = some { value := c.toNat, lowClamp := false, overrange := false }) ∧
    (1000 < c → limit c = some { value := 1000, lowClamp := false, overrange := true })) ∧
  ∀ f c k : Nat,
    (let d : Int := (c : Int) - f
     (smooth f c k : Int) = f + (if d.tdiv (2 ^ k) ≠ 0 then d.tdiv (2 ^ k) else d.sign)) ∧
    (k = 0 → smooth f c k = c) ∧ (f < c → f < smooth f c k ∧ smooth f c k ≤ c) ∧
    (c < f → c ≤ smooth f c k ∧ smooth f c k < f) ∧ (f = c → smooth f c k = c) ∧
    ∃ m : Nat, (fun x => smooth x c k)^[m] f = c

/-- R23 to R28: a channel record after one sample: a faulted sample gives NODE_FAULT and an underrange one UNDERRANGE, with
the value, the flags, the contact and the settle count kept; a usable one seeds or smooths, clears the age, and settles by
the zone's settle count. That a usable sample makes a HELD channel GOOD whatever its age (R28) is, for an age at or above a lowered
stale limit, the model's choice against R31 (log 44). -/
def Obligations.SamplesDecideTheHealth : Prop :=
  ∀ (b : Binding) (n : Nat) (c : ChannelRecord) (raw : Nat) (warm fault : Bool), c.health ≠ .disabled → 1 ≤ n →
    (c.health = .settling → 1 ≤ c.settleLeft) →
    let c' := sampleRecord b n c raw warm fault
    let under : Prop := b.kind ≠ .contact ∧ conditionRaw b raw < -50
    c'.raw = raw ∧
    (fault = true ∨ under →
      c'.health = (if fault then .nodeFault else .underrange) ∧ c'.mark = (if c.mark = .usable then .usable else .unusable) ∧
      c'.filtered = c.filtered ∧ c'.conditioned = c.conditioned ∧ c'.contact = c.contact ∧ c'.lowClamp = c.lowClamp ∧
      c'.overrange = c.overrange ∧ c'.settleLeft = c.settleLeft ∧ c'.age = c.age) ∧
    (fault = false → ¬ under →
      c'.mark = .usable ∧ c'.age = 0 ∧
      (let healthy : Prop := c.health = .good ∨ c.health = .held
       (warm = true → c'.health = .settling ∧ c'.settleLeft = n) ∧
       (warm = false → healthy → c'.health = .good) ∧
       (warm = false → ¬ healthy →
        let before := if c.health = .settling then c.settleLeft else n
        c'.settleLeft = before - 1 ∧ c'.health = (if before = 1 then .good else .settling)) ∧
       (b.kind = .contact →
        c'.contact = (if 2048 ≤ raw then .closed else .opened) ∧ c'.filtered = c.filtered ∧
          c'.conditioned = c.conditioned) ∧
       (b.kind ≠ .contact → c'.contact = c.contact ∧
        ((c'.conditioned : Int) = max 0 (min 1000 (conditionRaw b raw))) ∧
        (c'.lowClamp = true ↔ conditionRaw b raw < 0) ∧ (c'.overrange = true ↔ 1000 < conditionRaw b raw) ∧
        c'.filtered = (if warm = false ∧ healthy then smooth c.filtered c'.conditioned b.shift else c'.conditioned))))

/-- R32, R33, R35: the aging of a channel record whose zone's stale limit is `l`; and the aging of a survey completion: every
channel is aged by its own zone's limit, a change of health but one between GOOD and HELD posts CHANNEL_HEALTH, and nothing else
changes. That a fault state taken in the cycle stays, whatever the age before it, is for a channel that was HELD at or above a
lowered limit the model's choice against R31 (log 44); the order of the events is open (log 4). -/
def Obligations.AgingDecidesTheHealth : Prop :=
  (∀ (l : Nat) (c : ChannelRecord),
    let c' := ageRecord l c
    (c.health = .disabled → c' = c) ∧
    (c.health ≠ .disabled →
      c'.mark = .none ∧ c'.filtered = c.filtered ∧ c'.conditioned = c.conditioned ∧ c'.raw = c.raw ∧
      c'.contact = c.contact ∧ c'.lowClamp = c.lowClamp ∧ c'.overrange = c.overrange ∧ c'.settleLeft = c.settleLeft ∧
      (c.mark = .usable → c'.age = c.age ∧ c'.health = c.health) ∧
      (c.mark = .unusable → c'.age = min 15 (c.age + 1) ∧ c'.health = c.health) ∧
      (c.mark = .none → c'.age = min 15 (c.age + 1) ∧
        c'.health = (if c.health = .stale ∨ l ≤ min 15 (c.age + 1) then .stale
          else if c.health = .good ∨ c.health = .held then .held else c.health)))) ∧
  ∀ (s : State) (ws : List Work), ∃ t, runWork (.age :: ws) s = runWork ws t ∧
    t = { s with channels := t.channels, events := t.events, lost := t.lost, draws := t.draws } ∧
    ∀ i : Fin 64,
      let old := s.channels[i].health
      let new := t.channels[i].health
      t.channels[i] = ageRecord s.tables.zones[s.tables.bindings[i].zone].staleLimit s.channels[i] ∧
      (old ≠ new → ¬ ((old = .good ∨ old = .held) ∧ (new = .good ∨ new = .held)) →
        Posted s t .channelHealth i.val (detailOf new.code old.code))

/-- R43 to R52, R55 to R60, R74, R121, R142 (parts): one zone's evaluation. With a healthy member: the up-target, the immediate rise,
FAULT's direct exit, the latch, the keep conditions and the fall to the highest state that keeps, never below the up-target.
Without one: the six cases of R50 with the reading and NO_SENSE, counts of 0 and an effective vote of 0, and the ring emptied on
entry into FAULT; ALARM_ACK only while in ALARM. Then the history ring and RISING by the rate, the contact flags and the spill
step, in their order; no other zone changes. A change of gas state or NO_SENSE, of RISING, and of spill state or SPILL_BLIND posts
its event; an output whose function has turned toward alarm follows; groups that the zone does not serve, their fans, and all
else stay. A completion's piece for the zone is this evaluation. The levels stand in their order; an INACTIVE zone is not
evaluated (R42). -/
def Obligations.ZoneEvaluationDecidesGasRisingAndContacts : Prop :=
  (∀ (e : ZoneEntry) (r : ZoneRecord) (vs : List Nat), vs ≠ [] → e.watch ≤ e.alert → e.alert ≤ e.alarm →
    1 ≤ e.vote → r.gas ≠ .inactive →
    let top := largest vs
    let vote := min e.vote vs.length
    let votes (x : Nat) : Nat := vs.countP fun v => decide (x ≤ v)
    let target : Gas :=
      if vote ≤ votes e.alarm then .alarm else if e.alert ≤ top then .alert else if e.watch ≤ top then .watch else .normal
    let g := gasWithSense e r vs
    (∀ v ∈ vs, v ≤ top) ∧ top ∈ vs ∧
    (r.gas = .fault → g = target) ∧
    (r.gas ≠ .fault → r.gas.rank ≤ target.rank → g = target) ∧
    (r.gas ≠ .fault → target.rank < r.gas.rank →
      (r.gas = .alarm → e.latch = true → r.alarmAck = false → g = .alarm) ∧
      (¬ (r.gas = .alarm ∧ e.latch = true ∧ r.alarmAck = false) →
        let keepsAlarm : Prop := vote ≤ votes (e.alarm - e.hysteresis)
        let keepsAlert : Prop := e.alert - e.hysteresis ≤ top
        let keepsWatch : Prop := e.watch - e.hysteresis ≤ top
        (r.gas = .alarm → keepsAlarm → g = .alarm) ∧
        (r.gas = .alarm → ¬ keepsAlarm → keepsAlert → g = .alert) ∧
        (r.gas = .alarm → ¬ keepsAlarm → ¬ keepsAlert → g = if keepsWatch then .watch else .normal) ∧
        (r.gas = .alert → g = if keepsAlert then .alert else if keepsWatch then .watch else .normal) ∧
        (r.gas = .watch → g = if keepsWatch then .watch else .normal))) ∧
    target.rank ≤ g.rank) ∧
  (∀ (mode : Mode) (e : ZoneEntry) (r : ZoneRecord) (q : GasInputs), q.values ≠ [] → r.gas ≠ .inactive →
    let g := gasWithSense e r q.values
    decideGas mode e r q = { r with
      gas := g, reading := largest q.values, healthy := q.values.length, settling := q.settling, bound := q.bound
      alarmVotes := q.values.countP fun v => decide (e.alarm ≤ v), effectiveVote := min e.vote q.values.length
      noSense := false, alarmAck := r.alarmAck && r.gas == .alarm && g == .alarm }) ∧
  (∀ (mode : Mode) (e : ZoneEntry) (r : ZoneRecord) (settling bound : Nat), r.gas ≠ .inactive →
    let held : Prop := r.gas = .alarm ∧ e.latch = true ∧ r.alarmAck = false
    let becomes (g : Gas) (reading : Nat) (noSense : Bool) : Prop :=
      decideGas mode e r { values := [], settling := settling, bound := bound } = { r with
        gas := g, reading := reading, healthy := 0, settling := settling, bound := bound, alarmVotes := 0
        effectiveVote := 0, noSense := noSense, alarmAck := r.alarmAck && r.gas == .alarm && g == .alarm
        ring := if g = .fault ∧ r.gas ≠ .fault then [] else r.ring }
    (bound = 0 → held → becomes .alarm r.reading true) ∧ (bound = 0 → ¬ held → becomes .normal 0 false) ∧
    (1 ≤ bound → mode = .warmup ∨ settling = bound → becomes r.gas r.reading r.noSense) ∧
    (1 ≤ bound → mode ≠ .warmup → settling ≠ bound → held → becomes .alarm r.reading true) ∧
    (1 ≤ bound → mode ≠ .warmup → settling ≠ bound → ¬ held → becomes .fault r.reading false)) ∧
  (∀ (e : ZoneEntry) (r : ZoneRecord),
    let r' := decideRising e r
    let high : Prop := r.gas = .alert ∨ r.gas = .alarm ∨ r.gas = .fault
    r' = { r with ring := r'.ring, rising := r'.rising } ∧ (r.healthy = 0 → r'.ring = r.ring) ∧
    (1 ≤ r.healthy → r.ring.length < 8 → r'.ring = r.ring ++ [r.reading]) ∧
    (1 ≤ r.healthy → ∀ x xs, r.ring = x :: xs → xs.length = 7 → r'.ring = xs ++ [r.reading]) ∧
    (high → r'.rising = false) ∧ (¬ high → r.healthy = 0 → r'.rising = r.rising) ∧
    (¬ high → 1 ≤ r.healthy → r'.ring.length ≤ e.rateWindow → r'.rising = false) ∧
    (¬ high → 1 ≤ r.healthy → ∀ (before between : List Nat) (older newest : Nat),
      r'.ring = before ++ older :: between ++ [newest] → between.length + 1 = e.rateWindow →
      let rate : Int := (newest : Int) - older
      r'.rising = if (e.rateThreshold : Int) ≤ rate then true
        else if rate < ((e.rateThreshold / 2 : Nat) : Int) then false else r.rising)) ∧
  ∀ (s : State) (z : Fin 16),
    let member (k : BindingKind) (i : Fin 64) : Prop :=
      s.tables.bindings[i].valid = true ∧ s.tables.bindings[i].kind = k ∧ s.tables.bindings[i].zone = z
    let healthy (i : Fin 64) : Prop := s.channels[i].health = .good ∨ s.channels[i].health = .held
    let waits (i : Fin 64) : Prop := s.channels[i].health = .settling ∨ s.channels[i].health = .unseen
    let e := s.tables.zones[z]
    let q : GasInputs :=
      { values := ((List.finRange 64).filter fun i => decide (member .hydrogen i ∧ healthy i)).map fun i =>
          s.channels[i].filtered
        settling := (List.finRange 64).countP fun i => decide (member .hydrogen i ∧ waits i)
        bound := (List.finRange 64).countP fun i => decide (member .hydrogen i) }
    let shut (role : Role) : Prop := ∃ i : Fin 64, member .contact i ∧ s.tables.bindings[i].role = role ∧ healthy i ∧
      s.channels[i].contact = .closed
    (∃ r : ZoneRecord, (evaluateZone z s).zones[z] = decideSpill (spillInputs s z) r ∧
      r = { decideRising e (decideGas s.mode e s.zones[z] q) with purge := r.purge, equalize := r.equalize } ∧
      (r.purge = true ↔ shut .purge) ∧ (r.equalize = true ↔ shut .equalize)) ∧
    (∀ y : Fin 16, y ≠ z → (evaluateZone z s).zones[y] = s.zones[y]) ∧
    (∀ ws : List Work, runWork (.evaluate z :: ws) s = runWork ws (evaluateZone z s)) ∧
    let t := evaluateZone z s
    let old := s.zones[z]
    let new := t.zones[z]
    t = { s with zones := t.zones, groups := t.groups, fans := t.fans, outputs := t.outputs, events := t.events
                 lost := t.lost, draws := t.draws } ∧
    (∀ g : Fin 4, e.groupMask.getLsbD g.val = false → t.groups[g] = s.groups[g] ∧
      ∀ f : Fin 8, s.tables.fans[f].group = g → t.fans[f] = s.fans[f]) ∧
    (old.gas ≠ new.gas ∨ old.noSense ≠ new.noSense →
      Posted s t .zoneState z.val (detailOf new.gas.code (old.gas.code + 16 * new.noSense.toNat))) ∧
    (old.rising ≠ new.rising →
      Posted s t .rising z.val (detailOf (128 * new.rising.toNat + new.reading / 256) new.reading)) ∧
    (old.spill ≠ new.spill ∨ old.spillBlind ≠ new.spillBlind →
      Posted s t .spillState z.val (detailOf new.spill.code (old.spill.code + 16 * new.spillBlind.toNat))) ∧
    (chargeFunction t = false → t.outputs.chargePermit = false) ∧ (beaconFunction t = true → t.outputs.beacon = true) ∧
    (healthyFunction t = false → t.outputs.healthy = false) ∧
    (ventFunction t = .unproven → t.outputs.ventProven = false)

/-- R69 to R72: the spill fields after the spill step of a zone with `q` LEAK members; and those quantities of a zone: its valid
LEAK members and the healthy ones among them; wet, when a healthy one stands at or above its own wet level; all dry, when there
is a healthy one and each stands below its wet level minus the zone's spill hysteresis, a signed number; never both. -/
def Obligations.SpillStepTransitions : Prop :=
  (∀ (s : State) (z : Fin 16),
    let pad (i : Fin 64) : Prop :=
      s.tables.bindings[i].valid = true ∧ s.tables.bindings[i].kind = .leak ∧ s.tables.bindings[i].zone = z
    let healthyPad (i : Fin 64) : Prop := pad i ∧ (s.channels[i].health = .good ∨ s.channels[i].health = .held)
    let value (i : Fin 64) : Int := s.channels[i].filtered
    let wetAt (i : Fin 64) : Int := s.tables.bindings[i].wetLevel
    let q := spillInputs s z
    q.bound = ((List.finRange 64).countP fun i => decide (pad i)) ∧
    q.healthy = ((List.finRange 64).countP fun i => decide (healthyPad i)) ∧ q.healthy ≤ q.bound ∧
    (q.wet = true ↔ ∃ i, healthyPad i ∧ wetAt i ≤ value i) ∧
    (q.allDry = true ↔ (∃ i, healthyPad i) ∧
      ∀ i, healthyPad i → value i < wetAt i - (s.tables.zones[z].spillHysteresis : Int)) ∧
    ¬ (q.wet = true ∧ q.allDry = true)) ∧
  ∀ (q : SpillInputs) (r : ZoneRecord), q.healthy ≤ q.bound → ¬ (q.wet = true ∧ q.allDry = true) →
    let r' := decideSpill q r
    (1 ≤ q.bound → q.healthy = 0 → r'.spillBlind = true ∧ r'.spill = r.spill ∧ r'.spillAck = r.spillAck) ∧
    (q.bound = 0 ∨ 1 ≤ q.healthy →
      let wet : Prop := 1 ≤ q.bound ∧ q.wet = true
      let dry : Prop := q.bound = 0 ∨ q.allDry = true
      r'.spillBlind = false ∧
      (wet → r'.spill = .wet ∧ r'.spillAck = (if r.spill = .wet then r.spillAck else false)) ∧
      (¬ wet → r.spill = .dry → r'.spill = .dry ∧ r'.spillAck = r.spillAck) ∧
      (¬ wet → r.spill = .wet → ¬ dry → r'.spill = .wet ∧ r'.spillAck = r.spillAck) ∧
      (¬ wet → r.spill = .wet → dry → r.spillAck = false → r'.spill = .latched ∧ r'.spillAck = false) ∧
      (¬ wet → r.spill = .wet → dry → r.spillAck = true → r'.spill = .dry ∧ r'.spillAck = false) ∧
      (¬ wet → r.spill = .latched → r.spillAck = false → r'.spill = .latched ∧ r'.spillAck = false) ∧
      (¬ wet → r.spill = .latched → r.spillAck = true → r'.spill = .dry ∧ r'.spillAck = false))

/-- R87: the stage update: the three rows; settings 0 and 1 lower at every step; a group whose effective stage has dropped by
two stages falls one stage at the N-th step and the second at the 2N-th; no fall below the floor and no rise above 4. -/
def Obligations.StageUpdateByRunOn : Prop :=
  ∀ (n : Nat) (r : GroupRecord),
    let r' := stepStage n r
    (r.commanded < r.effective → r' = { r with commanded := r.commanded + 1, runOn := 0 }) ∧
    (r.effective = r.commanded → r' = { r with runOn := 0 }) ∧
    (r.effective < r.commanded → n ≤ r.runOn + 1 → r' = { r with commanded := r.commanded - 1, runOn := 0 }) ∧
    (r.effective < r.commanded → r.runOn + 1 < n → r' = { r with runOn := r.runOn + 1 }) ∧
    (n ≤ 1 → r.effective < r.commanded → r'.commanded = r.commanded - 1) ∧
    (1 ≤ n → r.effective + 2 ≤ r.commanded → r.runOn = 0 →
      ((stepStage n)^[n - 1] r).commanded = r.commanded ∧ ((stepStage n)^[n] r).commanded = r.commanded - 1 ∧
      ((stepStage n)^[2 * n - 1] r).commanded = r.commanded - 1 ∧
      ((stepStage n)^[2 * n] r).commanded = r.commanded - 2) ∧
    (r.floor ≤ r.effective → r.effective ≤ 4 → r.floor ≤ r.commanded → r.commanded ≤ 4 →
      r'.floor ≤ r'.commanded ∧ r'.commanded ≤ 4)

/-- R192: what a post does to the queue and the lost count: a repeat of the newest record is counted, up to 15; another event
is appended while the queue holds fewer than 48 records, and else lost, up to 255; and the posted event is the newest
record's, or the queue was full. Posting changes nothing else. -/
def Obligations.PostsCoalesceAppendOrAreLost : Prop :=
  ∀ (s : State) (k : EventKind) (subject : Nat) (detail : Half),
    let e : EventRecord := { kind := k, subject := byteOf subject, detail := detail, stamp := s.cycleCount, repeats := 1 }
    let same (r : EventRecord) : Prop := r.kind = k ∧ r.subject = byteOf subject ∧ r.detail = detail
    (∀ q r, s.events = q ++ [r] → same r →
      post k subject detail s = { s with events := q ++ [{ r with repeats := min 15 (r.repeats + 1) }] }) ∧
    ((∀ q r, s.events = q ++ [r] → ¬ same r) → s.events.length < 48 →
      post k subject detail s = { s with events := s.events ++ [e] }) ∧
    ((∀ q r, s.events = q ++ [r] → ¬ same r) → 48 ≤ s.events.length →
      post k subject detail s = { s with lost := min 255 (s.lost + 1) })

/-! ## Laws that every step keeps -/

/-- R192, R155, R89, R174 (their bold laws): at most 48 event records with repeat counts within 1..15 and a lost count
within 0..255, 32 change records, 4 contexts in a stack and 4 transit entries. -/
def Obligations.EveryStepKeepsTheSizes : Prop :=
  ∀ s t : State, EventsLaw s → SizesLaw s → step s = .next t → EventsLaw t ∧ SizesLaw t

/-- R20, R21 (their bold law): every filtered and conditioned value within 0..1000. -/
def Obligations.EveryStepKeepsFilteredValuesInRange : Prop :=
  ∀ s t : State, FilteredLaw s → step s = .next t → FilteredLaw t

/-- R122, R123, R126, R127 (laws): CHARGE_PERMIT is de-energized whenever the mode is not RUN or a zone is in ALERT, ALARM or
FAULT, and outside RUN so are VENT_PROVEN and HEALTHY. -/
def Obligations.EveryStepKeepsTheOutputLaws : Prop :=
  ∀ s t : State, ChargeLaw s → ModeOutputsLaw s → step s = .next t → ChargeLaw t ∧ ModeOutputsLaw t

/-- R83, R85, R93 (laws): the groups' stages are those their inputs give, every commanded stage lies between its floor and 4,
or is 0 in STANDBY, and the hand-over flag is what R93 gives. R80 to R82, R84: the stages the inputs give. A member zone is an
enabled one whose mask holds the group; each condition it shows names one entry of the group's stage map. In WARMUP and RUN the
demand is the largest of BASE, in WARMUP the WARMUP entry, and the entries of the conditions the member zones show; the floor is
the largest of the entries of those in the floor set, or 0; in STANDBY both are 0. The effective stage follows from the top of
the stack, the demand and the floor. And one recomputation of a group (R83, R85, R93, R114): its stages, the floor rule, which in
WARMUP and RUN raises a lower commanded stage to the floor with run-on 0, and the hand-over with its effect on the fans, in which
one FAN_STATE, from MANUAL to RUNNING, for a fan without an airflow slot taken back above stage 0 is the model's choice (log 41). -/
def Obligations.EveryStepKeepsTheStagingLaws : Prop :=
  (∀ s t : State, StagingLaw s → HandOverLaw s → step s = .next t → StagingLaw t ∧ HandOverLaw t) ∧
  (∀ (s : State) (g : Fin 4),
    let m := s.tables.groups[g].stageMap
    -- the conditions of R80: whether a zone record shows each, its stage map entry, and whether it stands in the floor set
    let rows (r : ZoneRecord) : List (Bool × Nat × Bool) :=
      [(r.gas == .watch, m.watch, false), (r.gas == .alert, m.alert, false), (r.gas == .alarm, m.alarm, true),
        (r.gas == .fault, m.fault, true), (r.rising, m.rising, false),
        (r.spill == .wet || r.spill == .latched, m.spill, true), (r.purge, m.purge, true),
        (r.equalize, m.equalize, false), (r.spillBlind || r.noSense, m.fault, true)]
    let calls (stage : Nat) (inFloorSet : Bool) : Prop := ∃ z : Fin 16, s.tables.zones[z].enabled = true ∧
      s.tables.zones[z].groupMask.getLsbD g.val = true ∧ (true, stage, inFloorSet) ∈ rows s.zones[z]
    let largestOf (p : Nat → Prop) (n : Nat) : Prop := p n ∧ ∀ k, p k → k ≤ n
    (s.mode = .standby → demandOf s g = 0 ∧ floorOf s g = 0) ∧
    (s.mode ≠ .standby →
      largestOf (fun n => n = m.base ∨ (s.mode = .warmup ∧ n = m.warmup) ∨ calls n false ∨ calls n true) (demandOf s g) ∧
      largestOf (fun n => n = 0 ∨ calls n true) (floorOf s g))) ∧
  (∀ (s : State) (g : Fin 4),
    let t := restage g s
    let r := s.groups[g]
    let r' := t.groups[g]
    let raises : Prop := s.mode ≠ .standby ∧ r.commanded < floorOf s g
    t = { s with groups := s.groups.set g r', fans := t.fans, events := t.events, lost := t.lost, draws := t.draws } ∧
    r' = { r with
      demand := demandOf s g, floor := floorOf s g, effective := effectiveOf s.mode r', handOver := r'.handOver
      commanded := if raises then floorOf s g else r.commanded, runOn := if raises then 0 else r.runOn } ∧
    HandOverJudged s t g) ∧
  ∀ (mode : Mode) (r : GroupRecord),
    (mode = .standby → effectiveOf mode r = 0) ∧
    (mode ≠ .standby → r.stack = [] → effectiveOf mode r = r.demand) ∧
    ∀ c cs, mode ≠ .standby → r.stack = c :: cs →
      effectiveOf mode r = if c.kind = .manual then r.floor else max c.stage r.floor

/-- R3 (law): keys stay unique and the chains hold exactly the valid slots, at most 8 each. Of a DEVICE_RESET the manual says
that a stored table satisfies the law; what damaged cells would load is left out. -/
def Obligations.EveryStepKeepsTheBindingLaw : Prop :=
  ∀ s t : State, KeysLaw s → (∀ straps rate, s.pending.head? ≠ some (.deviceReset straps rate)) →
    step s = .next t → KeysLaw t

/-- R131, R132 (law): the poll list holds each bound or drive address once, in ascending order, and no other. -/
def Obligations.EveryStepKeepsThePollListLaw : Prop := ∀ s t : State, PollLaw s → step s = .next t → PollLaw t

/-- R184 (a part), R127: in STANDBY the segment is IDLE, no completion is under way, every zone is INACTIVE and DRY, every
stage is 0, no fan runs and every output is de-energized. And R142, R135 (parts): a completion whose work is left waits for
the end of a count (log 1), with no transaction in flight and transit dispatch its last piece, and a transaction is in flight
on a POLLING or TRANSIT segment only. -/
def Obligations.EveryStepKeepsTheStandbyAndCompletionLaws : Prop :=
  ∀ s t : State, StandbyLaw s → step s = .next t → StandbyLaw t ∧ (CompletionLaw s → CompletionLaw t)

/-- R104, R105, R108 (laws): setpoints, proof timers and streaks stand at 0 outside the fan states that use them; a FAILED fan
has a reason, and no run set holds a fan twice, a fan that is failed, FAILED, disabled or of another group, or more fans than
the run count. -/
def Obligations.EveryStepKeepsTheFanLaws : Prop :=
  ∀ s t : State, StandbyLaw s → SetpointLaw s → RunSetLaw s → step s = .next t → SetpointLaw t ∧ RunSetLaw t

/-! ## Rules over all commands -/

/-- R152, R158, R159, R163 (laws): but for a DEVICE_RESET, the active tables change only in the apply point of a tick or a
RUN request, with hold off and no SAVE in flight, and the DEVICE entry only in STANDBY. -/
def Obligations.TablesChangeOnlyAtApplyPoints : Prop :=
  ∀ (s t : State) (c : Instr) (cs : List Instr), s.pending = c :: cs → step s = .next t →
    (∀ straps rate, c ≠ .deviceReset straps rate) →
    (t.tables ≠ s.tables → s.hold = false ∧ s.save = none ∧ s.changes ≠ [] ∧
      (c = .cycleTick ∨ c = .deferredTick ∨ c = .serviceReleaseAsserted ∨
        ∃ dst chars src, c = .run dst chars ∧ s.Takes 0x58 src [] (dst :: chars))) ∧
    (t.tables.device ≠ s.tables.device → s.mode = .standby)

/-- R184: the mode changes in four ways only. -/
def Obligations.ModesChangeInFourWays : Prop :=
  ∀ (s t : State) (c : Instr) (cs : List Instr), s.pending = c :: cs → step s = .next t → t.mode ≠ s.mode →
    (s.mode = .standby ∧ t.mode = .warmup ∧ ∃ dst chars src, c = .run dst chars ∧ s.Takes 0x58 src [] (dst :: chars)) ∨
    (s.mode = .warmup ∧ t.mode = .run ∧ c = .warmupCountEnd) ∨
    (t.mode = .standby ∧ ((∃ dst chars src, c = .standby dst chars ∧ s.Takes 0x59 src [] (dst :: chars)) ∨
      (∃ dst chars src, c = .restart dst chars ∧ s.Takes 0x5A src [] (dst :: chars)) ∨ ∃ straps rate, c = .deviceReset straps rate))

/-- R49 (law): a zone with latch on and ALARM_ACK clear stays in ALARM, but for device reset, RESTART, STANDBY entry, and a
command with an apply point (hold off, no SAVE in flight) that finds in the change list a record that disables the zone or
turns its latch off. -/
def Obligations.LatchedAlarmsStay : Prop :=
  ∀ (s t : State) (c : Instr) (cs : List Instr) (z : Fin 16), s.pending = c :: cs → step s = .next t →
    s.mode ≠ .standby → s.tables.zones[z].enabled = true → s.tables.zones[z].latch = true → s.zones[z].gas = .alarm →
    s.zones[z].alarmAck = false →
    t.zones[z].gas = .alarm ∨
      (s.hold = false ∧ s.save = none ∧ (c = .cycleTick ∨ c = .deferredTick ∨ c = .serviceReleaseAsserted) ∧
        ∃ e, Change.zone z e ∈ s.changes ∧ (e.enabled = false ∨ e.latch = false)) ∨
      (∃ dst chars src, c = .standby dst chars ∧ s.Takes 0x59 src [] (dst :: chars)) ∨
      (∃ dst chars src, c = .restart dst chars ∧ s.Takes 0x5A src [] (dst :: chars)) ∨ ∃ straps rate, c = .deviceReset straps rate

/-- R176 (law): a step that begins to send a DRIVE frame from the transit queue leaves the drive's fan in a group with MANUAL
on top and a floor of 0. Dispatch is the last piece of a completion's work (R142). -/
def Obligations.TransitDrivesOnlyUnderHandOver : Prop :=
  ∀ (s t : State) (tr : Transaction), HandOverLaw s → Work.close ∉ s.work.dropLast → step s = .next t → t.transaction = some tr →
    t.transaction ≠ s.transaction → s.pending.head? ≠ some .nextAttempt → tr.owner = .transit → tr.phase = .sending →
    tr.frame.kind = 0x12 →
    ∃ f : Fin 8, t.tables.fans[f].enabled = true ∧ byteOf t.tables.fans[f].driveNode = tr.frame.dst ∧
      t.groups[t.tables.fans[f].group].floor = 0 ∧
      ∃ c cs, t.groups[t.tables.fans[f].group].stack = c :: cs ∧ c.kind = .manual
end

