-- ==== Sys2Proof/Laws/State.lean ====
section
/-! SUPPORT. What each update of the state leaves of each field: one lemma per field per update, all true by rfl. -/

namespace Sys2Proof.Machine

/-! ## setChannel -/

section
variable (i : Fin 64) (r : ChannelRecord) (s : State)

@[simp] theorem setChannel_pending : (setChannel i r s).pending = s.pending := rfl
@[simp] theorem setChannel_work : (setChannel i r s).work = s.work := rfl
@[simp] theorem setChannel_draws : (setChannel i r s).draws = s.draws := rfl
@[simp] theorem setChannel_inReset : (setChannel i r s).inReset = s.inReset := rfl
@[simp] theorem setChannel_mode : (setChannel i r s).mode = s.mode := rfl
@[simp] theorem setChannel_warmupLeft : (setChannel i r s).warmupLeft = s.warmupLeft := rfl
@[simp] theorem setChannel_tables : (setChannel i r s).tables = s.tables := rfl
@[simp] theorem setChannel_chains : (setChannel i r s).chains = s.chains := rfl
@[simp] theorem setChannel_zones : (setChannel i r s).zones = s.zones := rfl
@[simp] theorem setChannel_groups : (setChannel i r s).groups = s.groups := rfl
@[simp] theorem setChannel_fans : (setChannel i r s).fans = s.fans := rfl
@[simp] theorem setChannel_outputs : (setChannel i r s).outputs = s.outputs := rfl
@[simp] theorem setChannel_segment : (setChannel i r s).segment = s.segment := rfl
@[simp] theorem setChannel_timerOn : (setChannel i r s).timerOn = s.timerOn := rfl
@[simp] theorem setChannel_deferredTick : (setChannel i r s).deferredTick = s.deferredTick := rfl
@[simp] theorem setChannel_cycleCount : (setChannel i r s).cycleCount = s.cycleCount := rfl
@[simp] theorem setChannel_contention : (setChannel i r s).contention = s.contention := rfl
@[simp] theorem setChannel_countdown : (setChannel i r s).countdown = s.countdown := rfl
@[simp] theorem setChannel_transaction : (setChannel i r s).transaction = s.transaction := rfl
@[simp] theorem setChannel_dispatched : (setChannel i r s).dispatched = s.dispatched := rfl
@[simp] theorem setChannel_releaseLine : (setChannel i r s).releaseLine = s.releaseLine := rfl
@[simp] theorem setChannel_pollList : (setChannel i r s).pollList = s.pollList := rfl
@[simp] theorem setChannel_changes : (setChannel i r s).changes = s.changes := rfl
@[simp] theorem setChannel_hold : (setChannel i r s).hold = s.hold := rfl
@[simp] theorem setChannel_holdCount : (setChannel i r s).holdCount = s.holdCount := rfl
@[simp] theorem setChannel_transits : (setChannel i r s).transits = s.transits := rfl
@[simp] theorem setChannel_transitCount : (setChannel i r s).transitCount = s.transitCount := rfl
@[simp] theorem setChannel_trunkPort : (setChannel i r s).trunkPort = s.trunkPort := rfl
@[simp] theorem setChannel_trunkAddress : (setChannel i r s).trunkAddress = s.trunkAddress := rfl
@[simp] theorem setChannel_trunkRate : (setChannel i r s).trunkRate = s.trunkRate := rfl
@[simp] theorem setChannel_store : (setChannel i r s).store = s.store := rfl
@[simp] theorem setChannel_storeValid : (setChannel i r s).storeValid = s.storeValid := rfl
@[simp] theorem setChannel_save : (setChannel i r s).save = s.save := rfl
@[simp] theorem setChannel_events : (setChannel i r s).events = s.events := rfl
@[simp] theorem setChannel_lost : (setChannel i r s).lost = s.lost := rfl
@[simp] theorem setChannel_channels : (setChannel i r s).channels = s.channels.set i r := rfl

end

/-! ## setZone -/

section
variable (z : Fin 16) (r : ZoneRecord) (s : State)

@[simp] theorem setZone_pending : (setZone z r s).pending = s.pending := rfl
@[simp] theorem setZone_work : (setZone z r s).work = s.work := rfl
@[simp] theorem setZone_draws : (setZone z r s).draws = s.draws := rfl
@[simp] theorem setZone_inReset : (setZone z r s).inReset = s.inReset := rfl
@[simp] theorem setZone_mode : (setZone z r s).mode = s.mode := rfl
@[simp] theorem setZone_warmupLeft : (setZone z r s).warmupLeft = s.warmupLeft := rfl
@[simp] theorem setZone_tables : (setZone z r s).tables = s.tables := rfl
@[simp] theorem setZone_chains : (setZone z r s).chains = s.chains := rfl
@[simp] theorem setZone_channels : (setZone z r s).channels = s.channels := rfl
@[simp] theorem setZone_groups : (setZone z r s).groups = s.groups := rfl
@[simp] theorem setZone_fans : (setZone z r s).fans = s.fans := rfl
@[simp] theorem setZone_outputs : (setZone z r s).outputs = s.outputs := rfl
@[simp] theorem setZone_segment : (setZone z r s).segment = s.segment := rfl
@[simp] theorem setZone_timerOn : (setZone z r s).timerOn = s.timerOn := rfl
@[simp] theorem setZone_deferredTick : (setZone z r s).deferredTick = s.deferredTick := rfl
@[simp] theorem setZone_cycleCount : (setZone z r s).cycleCount = s.cycleCount := rfl
@[simp] theorem setZone_contention : (setZone z r s).contention = s.contention := rfl
@[simp] theorem setZone_countdown : (setZone z r s).countdown = s.countdown := rfl
@[simp] theorem setZone_transaction : (setZone z r s).transaction = s.transaction := rfl
@[simp] theorem setZone_dispatched : (setZone z r s).dispatched = s.dispatched := rfl
@[simp] theorem setZone_releaseLine : (setZone z r s).releaseLine = s.releaseLine := rfl
@[simp] theorem setZone_pollList : (setZone z r s).pollList = s.pollList := rfl
@[simp] theorem setZone_changes : (setZone z r s).changes = s.changes := rfl
@[simp] theorem setZone_hold : (setZone z r s).hold = s.hold := rfl
@[simp] theorem setZone_holdCount : (setZone z r s).holdCount = s.holdCount := rfl
@[simp] theorem setZone_transits : (setZone z r s).transits = s.transits := rfl
@[simp] theorem setZone_transitCount : (setZone z r s).transitCount = s.transitCount := rfl
@[simp] theorem setZone_trunkPort : (setZone z r s).trunkPort = s.trunkPort := rfl
@[simp] theorem setZone_trunkAddress : (setZone z r s).trunkAddress = s.trunkAddress := rfl
@[simp] theorem setZone_trunkRate : (setZone z r s).trunkRate = s.trunkRate := rfl
@[simp] theorem setZone_store : (setZone z r s).store = s.store := rfl
@[simp] theorem setZone_storeValid : (setZone z r s).storeValid = s.storeValid := rfl
@[simp] theorem setZone_save : (setZone z r s).save = s.save := rfl
@[simp] theorem setZone_events : (setZone z r s).events = s.events := rfl
@[simp] theorem setZone_lost : (setZone z r s).lost = s.lost := rfl
@[simp] theorem setZone_zones : (setZone z r s).zones = s.zones.set z r := rfl

end

/-! ## setGroup -/

section
variable (g : Fin 4) (r : GroupRecord) (s : State)

@[simp] theorem setGroup_pending : (setGroup g r s).pending = s.pending := rfl
@[simp] theorem setGroup_work : (setGroup g r s).work = s.work := rfl
@[simp] theorem setGroup_draws : (setGroup g r s).draws = s.draws := rfl
@[simp] theorem setGroup_inReset : (setGroup g r s).inReset = s.inReset := rfl
@[simp] theorem setGroup_mode : (setGroup g r s).mode = s.mode := rfl
@[simp] theorem setGroup_warmupLeft : (setGroup g r s).warmupLeft = s.warmupLeft := rfl
@[simp] theorem setGroup_tables : (setGroup g r s).tables = s.tables := rfl
@[simp] theorem setGroup_chains : (setGroup g r s).chains = s.chains := rfl
@[simp] theorem setGroup_channels : (setGroup g r s).channels = s.channels := rfl
@[simp] theorem setGroup_zones : (setGroup g r s).zones = s.zones := rfl
@[simp] theorem setGroup_fans : (setGroup g r s).fans = s.fans := rfl
@[simp] theorem setGroup_outputs : (setGroup g r s).outputs = s.outputs := rfl
@[simp] theorem setGroup_segment : (setGroup g r s).segment = s.segment := rfl
@[simp] theorem setGroup_timerOn : (setGroup g r s).timerOn = s.timerOn := rfl
@[simp] theorem setGroup_deferredTick : (setGroup g r s).deferredTick = s.deferredTick := rfl
@[simp] theorem setGroup_cycleCount : (setGroup g r s).cycleCount = s.cycleCount := rfl
@[simp] theorem setGroup_contention : (setGroup g r s).contention = s.contention := rfl
@[simp] theorem setGroup_countdown : (setGroup g r s).countdown = s.countdown := rfl
@[simp] theorem setGroup_transaction : (setGroup g r s).transaction = s.transaction := rfl
@[simp] theorem setGroup_dispatched : (setGroup g r s).dispatched = s.dispatched := rfl
@[simp] theorem setGroup_releaseLine : (setGroup g r s).releaseLine = s.releaseLine := rfl
@[simp] theorem setGroup_pollList : (setGroup g r s).pollList = s.pollList := rfl
@[simp] theorem setGroup_changes : (setGroup g r s).changes = s.changes := rfl
@[simp] theorem setGroup_hold : (setGroup g r s).hold = s.hold := rfl
@[simp] theorem setGroup_holdCount : (setGroup g r s).holdCount = s.holdCount := rfl
@[simp] theorem setGroup_transits : (setGroup g r s).transits = s.transits := rfl
@[simp] theorem setGroup_transitCount : (setGroup g r s).transitCount = s.transitCount := rfl
@[simp] theorem setGroup_trunkPort : (setGroup g r s).trunkPort = s.trunkPort := rfl
@[simp] theorem setGroup_trunkAddress : (setGroup g r s).trunkAddress = s.trunkAddress := rfl
@[simp] theorem setGroup_trunkRate : (setGroup g r s).trunkRate = s.trunkRate := rfl
@[simp] theorem setGroup_store : (setGroup g r s).store = s.store := rfl
@[simp] theorem setGroup_storeValid : (setGroup g r s).storeValid = s.storeValid := rfl
@[simp] theorem setGroup_save : (setGroup g r s).save = s.save := rfl
@[simp] theorem setGroup_events : (setGroup g r s).events = s.events := rfl
@[simp] theorem setGroup_lost : (setGroup g r s).lost = s.lost := rfl
@[simp] theorem setGroup_groups : (setGroup g r s).groups = s.groups.set g r := rfl

end

/-! ## setFan -/

section
variable (f : Fin 8) (r : FanRecord) (s : State)

@[simp] theorem setFan_pending : (setFan f r s).pending = s.pending := rfl
@[simp] theorem setFan_work : (setFan f r s).work = s.work := rfl
@[simp] theorem setFan_draws : (setFan f r s).draws = s.draws := rfl
@[simp] theorem setFan_inReset : (setFan f r s).inReset = s.inReset := rfl
@[simp] theorem setFan_mode : (setFan f r s).mode = s.mode := rfl
@[simp] theorem setFan_warmupLeft : (setFan f r s).warmupLeft = s.warmupLeft := rfl
@[simp] theorem setFan_tables : (setFan f r s).tables = s.tables := rfl
@[simp] theorem setFan_chains : (setFan f r s).chains = s.chains := rfl
@[simp] theorem setFan_channels : (setFan f r s).channels = s.channels := rfl
@[simp] theorem setFan_zones : (setFan f r s).zones = s.zones := rfl
@[simp] theorem setFan_groups : (setFan f r s).groups = s.groups := rfl
@[simp] theorem setFan_outputs : (setFan f r s).outputs = s.outputs := rfl
@[simp] theorem setFan_segment : (setFan f r s).segment = s.segment := rfl
@[simp] theorem setFan_timerOn : (setFan f r s).timerOn = s.timerOn := rfl
@[simp] theorem setFan_deferredTick : (setFan f r s).deferredTick = s.deferredTick := rfl
@[simp] theorem setFan_cycleCount : (setFan f r s).cycleCount = s.cycleCount := rfl
@[simp] theorem setFan_contention : (setFan f r s).contention = s.contention := rfl
@[simp] theorem setFan_countdown : (setFan f r s).countdown = s.countdown := rfl
@[simp] theorem setFan_transaction : (setFan f r s).transaction = s.transaction := rfl
@[simp] theorem setFan_dispatched : (setFan f r s).dispatched = s.dispatched := rfl
@[simp] theorem setFan_releaseLine : (setFan f r s).releaseLine = s.releaseLine := rfl
@[simp] theorem setFan_pollList : (setFan f r s).pollList = s.pollList := rfl
@[simp] theorem setFan_changes : (setFan f r s).changes = s.changes := rfl
@[simp] theorem setFan_hold : (setFan f r s).hold = s.hold := rfl
@[simp] theorem setFan_holdCount : (setFan f r s).holdCount = s.holdCount := rfl
@[simp] theorem setFan_transits : (setFan f r s).transits = s.transits := rfl
@[simp] theorem setFan_transitCount : (setFan f r s).transitCount = s.transitCount := rfl
@[simp] theorem setFan_trunkPort : (setFan f r s).trunkPort = s.trunkPort := rfl
@[simp] theorem setFan_trunkAddress : (setFan f r s).trunkAddress = s.trunkAddress := rfl
@[simp] theorem setFan_trunkRate : (setFan f r s).trunkRate = s.trunkRate := rfl
@[simp] theorem setFan_store : (setFan f r s).store = s.store := rfl
@[simp] theorem setFan_storeValid : (setFan f r s).storeValid = s.storeValid := rfl
@[simp] theorem setFan_save : (setFan f r s).save = s.save := rfl
@[simp] theorem setFan_events : (setFan f r s).events = s.events := rfl
@[simp] theorem setFan_lost : (setFan f r s).lost = s.lost := rfl
@[simp] theorem setFan_fans : (setFan f r s).fans = s.fans.set f r := rfl

end

/-! ## post -/

section
variable (k : EventKind) (n : Nat) (d : Half) (s : State)

@[simp] theorem post_pending : (post k n d s).pending = s.pending := rfl
@[simp] theorem post_work : (post k n d s).work = s.work := rfl
@[simp] theorem post_draws : (post k n d s).draws = s.draws := rfl
@[simp] theorem post_inReset : (post k n d s).inReset = s.inReset := rfl
@[simp] theorem post_mode : (post k n d s).mode = s.mode := rfl
@[simp] theorem post_warmupLeft : (post k n d s).warmupLeft = s.warmupLeft := rfl
@[simp] theorem post_tables : (post k n d s).tables = s.tables := rfl
@[simp] theorem post_chains : (post k n d s).chains = s.chains := rfl
@[simp] theorem post_channels : (post k n d s).channels = s.channels := rfl
@[simp] theorem post_zones : (post k n d s).zones = s.zones := rfl
@[simp] theorem post_groups : (post k n d s).groups = s.groups := rfl
@[simp] theorem post_fans : (post k n d s).fans = s.fans := rfl
@[simp] theorem post_outputs : (post k n d s).outputs = s.outputs := rfl
@[simp] theorem post_segment : (post k n d s).segment = s.segment := rfl
@[simp] theorem post_timerOn : (post k n d s).timerOn = s.timerOn := rfl
@[simp] theorem post_deferredTick : (post k n d s).deferredTick = s.deferredTick := rfl
@[simp] theorem post_cycleCount : (post k n d s).cycleCount = s.cycleCount := rfl
@[simp] theorem post_contention : (post k n d s).contention = s.contention := rfl
@[simp] theorem post_countdown : (post k n d s).countdown = s.countdown := rfl
@[simp] theorem post_transaction : (post k n d s).transaction = s.transaction := rfl
@[simp] theorem post_dispatched : (post k n d s).dispatched = s.dispatched := rfl
@[simp] theorem post_releaseLine : (post k n d s).releaseLine = s.releaseLine := rfl
@[simp] theorem post_pollList : (post k n d s).pollList = s.pollList := rfl
@[simp] theorem post_changes : (post k n d s).changes = s.changes := rfl
@[simp] theorem post_hold : (post k n d s).hold = s.hold := rfl
@[simp] theorem post_holdCount : (post k n d s).holdCount = s.holdCount := rfl
@[simp] theorem post_transits : (post k n d s).transits = s.transits := rfl
@[simp] theorem post_transitCount : (post k n d s).transitCount = s.transitCount := rfl
@[simp] theorem post_trunkPort : (post k n d s).trunkPort = s.trunkPort := rfl
@[simp] theorem post_trunkAddress : (post k n d s).trunkAddress = s.trunkAddress := rfl
@[simp] theorem post_trunkRate : (post k n d s).trunkRate = s.trunkRate := rfl
@[simp] theorem post_store : (post k n d s).store = s.store := rfl
@[simp] theorem post_storeValid : (post k n d s).storeValid = s.storeValid := rfl
@[simp] theorem post_save : (post k n d s).save = s.save := rfl

end

/-! ## judgeAlarm -/

section
variable (s : State)

@[simp] theorem judgeAlarm_pending : (judgeAlarm s).pending = s.pending := rfl
@[simp] theorem judgeAlarm_work : (judgeAlarm s).work = s.work := rfl
@[simp] theorem judgeAlarm_draws : (judgeAlarm s).draws = s.draws := rfl
@[simp] theorem judgeAlarm_inReset : (judgeAlarm s).inReset = s.inReset := rfl
@[simp] theorem judgeAlarm_mode : (judgeAlarm s).mode = s.mode := rfl
@[simp] theorem judgeAlarm_warmupLeft : (judgeAlarm s).warmupLeft = s.warmupLeft := rfl
@[simp] theorem judgeAlarm_tables : (judgeAlarm s).tables = s.tables := rfl
@[simp] theorem judgeAlarm_chains : (judgeAlarm s).chains = s.chains := rfl
@[simp] theorem judgeAlarm_channels : (judgeAlarm s).channels = s.channels := rfl
@[simp] theorem judgeAlarm_zones : (judgeAlarm s).zones = s.zones := rfl
@[simp] theorem judgeAlarm_groups : (judgeAlarm s).groups = s.groups := rfl
@[simp] theorem judgeAlarm_fans : (judgeAlarm s).fans = s.fans := rfl
@[simp] theorem judgeAlarm_segment : (judgeAlarm s).segment = s.segment := rfl
@[simp] theorem judgeAlarm_timerOn : (judgeAlarm s).timerOn = s.timerOn := rfl
@[simp] theorem judgeAlarm_deferredTick : (judgeAlarm s).deferredTick = s.deferredTick := rfl
@[simp] theorem judgeAlarm_cycleCount : (judgeAlarm s).cycleCount = s.cycleCount := rfl
@[simp] theorem judgeAlarm_contention : (judgeAlarm s).contention = s.contention := rfl
@[simp] theorem judgeAlarm_countdown : (judgeAlarm s).countdown = s.countdown := rfl
@[simp] theorem judgeAlarm_transaction : (judgeAlarm s).transaction = s.transaction := rfl
@[simp] theorem judgeAlarm_dispatched : (judgeAlarm s).dispatched = s.dispatched := rfl
@[simp] theorem judgeAlarm_releaseLine : (judgeAlarm s).releaseLine = s.releaseLine := rfl
@[simp] theorem judgeAlarm_pollList : (judgeAlarm s).pollList = s.pollList := rfl
@[simp] theorem judgeAlarm_changes : (judgeAlarm s).changes = s.changes := rfl
@[simp] theorem judgeAlarm_hold : (judgeAlarm s).hold = s.hold := rfl
@[simp] theorem judgeAlarm_holdCount : (judgeAlarm s).holdCount = s.holdCount := rfl
@[simp] theorem judgeAlarm_transits : (judgeAlarm s).transits = s.transits := rfl
@[simp] theorem judgeAlarm_transitCount : (judgeAlarm s).transitCount = s.transitCount := rfl
@[simp] theorem judgeAlarm_trunkPort : (judgeAlarm s).trunkPort = s.trunkPort := rfl
@[simp] theorem judgeAlarm_trunkAddress : (judgeAlarm s).trunkAddress = s.trunkAddress := rfl
@[simp] theorem judgeAlarm_trunkRate : (judgeAlarm s).trunkRate = s.trunkRate := rfl
@[simp] theorem judgeAlarm_store : (judgeAlarm s).store = s.store := rfl
@[simp] theorem judgeAlarm_storeValid : (judgeAlarm s).storeValid = s.storeValid := rfl
@[simp] theorem judgeAlarm_save : (judgeAlarm s).save = s.save := rfl
@[simp] theorem judgeAlarm_events : (judgeAlarm s).events = s.events := rfl
@[simp] theorem judgeAlarm_lost : (judgeAlarm s).lost = s.lost := rfl

end

/-! ## judgeAll -/

section
variable (s : State)

@[simp] theorem judgeAll_pending : (judgeAll s).pending = s.pending := rfl
@[simp] theorem judgeAll_work : (judgeAll s).work = s.work := rfl
@[simp] theorem judgeAll_draws : (judgeAll s).draws = s.draws := rfl
@[simp] theorem judgeAll_inReset : (judgeAll s).inReset = s.inReset := rfl
@[simp] theorem judgeAll_mode : (judgeAll s).mode = s.mode := rfl
@[simp] theorem judgeAll_warmupLeft : (judgeAll s).warmupLeft = s.warmupLeft := rfl
@[simp] theorem judgeAll_tables : (judgeAll s).tables = s.tables := rfl
@[simp] theorem judgeAll_chains : (judgeAll s).chains = s.chains := rfl
@[simp] theorem judgeAll_channels : (judgeAll s).channels = s.channels := rfl
@[simp] theorem judgeAll_zones : (judgeAll s).zones = s.zones := rfl
@[simp] theorem judgeAll_groups : (judgeAll s).groups = s.groups := rfl
@[simp] theorem judgeAll_fans : (judgeAll s).fans = s.fans := rfl
@[simp] theorem judgeAll_segment : (judgeAll s).segment = s.segment := rfl
@[simp] theorem judgeAll_timerOn : (judgeAll s).timerOn = s.timerOn := rfl
@[simp] theorem judgeAll_deferredTick : (judgeAll s).deferredTick = s.deferredTick := rfl
@[simp] theorem judgeAll_cycleCount : (judgeAll s).cycleCount = s.cycleCount := rfl
@[simp] theorem judgeAll_contention : (judgeAll s).contention = s.contention := rfl
@[simp] theorem judgeAll_countdown : (judgeAll s).countdown = s.countdown := rfl
@[simp] theorem judgeAll_transaction : (judgeAll s).transaction = s.transaction := rfl
@[simp] theorem judgeAll_dispatched : (judgeAll s).dispatched = s.dispatched := rfl
@[simp] theorem judgeAll_releaseLine : (judgeAll s).releaseLine = s.releaseLine := rfl
@[simp] theorem judgeAll_pollList : (judgeAll s).pollList = s.pollList := rfl
@[simp] theorem judgeAll_changes : (judgeAll s).changes = s.changes := rfl
@[simp] theorem judgeAll_hold : (judgeAll s).hold = s.hold := rfl
@[simp] theorem judgeAll_holdCount : (judgeAll s).holdCount = s.holdCount := rfl
@[simp] theorem judgeAll_transits : (judgeAll s).transits = s.transits := rfl
@[simp] theorem judgeAll_transitCount : (judgeAll s).transitCount = s.transitCount := rfl
@[simp] theorem judgeAll_trunkPort : (judgeAll s).trunkPort = s.trunkPort := rfl
@[simp] theorem judgeAll_trunkAddress : (judgeAll s).trunkAddress = s.trunkAddress := rfl
@[simp] theorem judgeAll_trunkRate : (judgeAll s).trunkRate = s.trunkRate := rfl
@[simp] theorem judgeAll_store : (judgeAll s).store = s.store := rfl
@[simp] theorem judgeAll_storeValid : (judgeAll s).storeValid = s.storeValid := rfl
@[simp] theorem judgeAll_save : (judgeAll s).save = s.save := rfl
@[simp] theorem judgeAll_events : (judgeAll s).events = s.events := rfl
@[simp] theorem judgeAll_lost : (judgeAll s).lost = s.lost := rfl

end

/-! ## judgeBeacon -/

section
variable (s : State)

@[simp] theorem judgeBeacon_pending : (judgeBeacon s).pending = s.pending := rfl
@[simp] theorem judgeBeacon_work : (judgeBeacon s).work = s.work := rfl
@[simp] theorem judgeBeacon_draws : (judgeBeacon s).draws = s.draws := rfl
@[simp] theorem judgeBeacon_inReset : (judgeBeacon s).inReset = s.inReset := rfl
@[simp] theorem judgeBeacon_mode : (judgeBeacon s).mode = s.mode := rfl
@[simp] theorem judgeBeacon_warmupLeft : (judgeBeacon s).warmupLeft = s.warmupLeft := rfl
@[simp] theorem judgeBeacon_tables : (judgeBeacon s).tables = s.tables := rfl
@[simp] theorem judgeBeacon_chains : (judgeBeacon s).chains = s.chains := rfl
@[simp] theorem judgeBeacon_channels : (judgeBeacon s).channels = s.channels := rfl
@[simp] theorem judgeBeacon_zones : (judgeBeacon s).zones = s.zones := rfl
@[simp] theorem judgeBeacon_groups : (judgeBeacon s).groups = s.groups := rfl
@[simp] theorem judgeBeacon_fans : (judgeBeacon s).fans = s.fans := rfl
@[simp] theorem judgeBeacon_segment : (judgeBeacon s).segment = s.segment := rfl
@[simp] theorem judgeBeacon_timerOn : (judgeBeacon s).timerOn = s.timerOn := rfl
@[simp] theorem judgeBeacon_deferredTick : (judgeBeacon s).deferredTick = s.deferredTick := rfl
@[simp] theorem judgeBeacon_cycleCount : (judgeBeacon s).cycleCount = s.cycleCount := rfl
@[simp] theorem judgeBeacon_contention : (judgeBeacon s).contention = s.contention := rfl
@[simp] theorem judgeBeacon_countdown : (judgeBeacon s).countdown = s.countdown := rfl
@[simp] theorem judgeBeacon_transaction : (judgeBeacon s).transaction = s.transaction := rfl
@[simp] theorem judgeBeacon_dispatched : (judgeBeacon s).dispatched = s.dispatched := rfl
@[simp] theorem judgeBeacon_releaseLine : (judgeBeacon s).releaseLine = s.releaseLine := rfl
@[simp] theorem judgeBeacon_pollList : (judgeBeacon s).pollList = s.pollList := rfl
@[simp] theorem judgeBeacon_changes : (judgeBeacon s).changes = s.changes := rfl
@[simp] theorem judgeBeacon_hold : (judgeBeacon s).hold = s.hold := rfl
@[simp] theorem judgeBeacon_holdCount : (judgeBeacon s).holdCount = s.holdCount := rfl
@[simp] theorem judgeBeacon_transits : (judgeBeacon s).transits = s.transits := rfl
@[simp] theorem judgeBeacon_transitCount : (judgeBeacon s).transitCount = s.transitCount := rfl
@[simp] theorem judgeBeacon_trunkPort : (judgeBeacon s).trunkPort = s.trunkPort := rfl
@[simp] theorem judgeBeacon_trunkAddress : (judgeBeacon s).trunkAddress = s.trunkAddress := rfl
@[simp] theorem judgeBeacon_trunkRate : (judgeBeacon s).trunkRate = s.trunkRate := rfl
@[simp] theorem judgeBeacon_store : (judgeBeacon s).store = s.store := rfl
@[simp] theorem judgeBeacon_storeValid : (judgeBeacon s).storeValid = s.storeValid := rfl
@[simp] theorem judgeBeacon_save : (judgeBeacon s).save = s.save := rfl
@[simp] theorem judgeBeacon_events : (judgeBeacon s).events = s.events := rfl
@[simp] theorem judgeBeacon_lost : (judgeBeacon s).lost = s.lost := rfl

end

/-! ## judgeVent -/

section
variable (s : State)

@[simp] theorem judgeVent_pending : (judgeVent s).pending = s.pending := rfl
@[simp] theorem judgeVent_work : (judgeVent s).work = s.work := rfl
@[simp] theorem judgeVent_draws : (judgeVent s).draws = s.draws := rfl
@[simp] theorem judgeVent_inReset : (judgeVent s).inReset = s.inReset := rfl
@[simp] theorem judgeVent_mode : (judgeVent s).mode = s.mode := rfl
@[simp] theorem judgeVent_warmupLeft : (judgeVent s).warmupLeft = s.warmupLeft := rfl
@[simp] theorem judgeVent_tables : (judgeVent s).tables = s.tables := rfl
@[simp] theorem judgeVent_chains : (judgeVent s).chains = s.chains := rfl
@[simp] theorem judgeVent_channels : (judgeVent s).channels = s.channels := rfl
@[simp] theorem judgeVent_zones : (judgeVent s).zones = s.zones := rfl
@[simp] theorem judgeVent_groups : (judgeVent s).groups = s.groups := rfl
@[simp] theorem judgeVent_fans : (judgeVent s).fans = s.fans := rfl
@[simp] theorem judgeVent_segment : (judgeVent s).segment = s.segment := rfl
@[simp] theorem judgeVent_timerOn : (judgeVent s).timerOn = s.timerOn := rfl
@[simp] theorem judgeVent_deferredTick : (judgeVent s).deferredTick = s.deferredTick := rfl
@[simp] theorem judgeVent_cycleCount : (judgeVent s).cycleCount = s.cycleCount := rfl
@[simp] theorem judgeVent_contention : (judgeVent s).contention = s.contention := rfl
@[simp] theorem judgeVent_countdown : (judgeVent s).countdown = s.countdown := rfl
@[simp] theorem judgeVent_transaction : (judgeVent s).transaction = s.transaction := rfl
@[simp] theorem judgeVent_dispatched : (judgeVent s).dispatched = s.dispatched := rfl
@[simp] theorem judgeVent_releaseLine : (judgeVent s).releaseLine = s.releaseLine := rfl
@[simp] theorem judgeVent_pollList : (judgeVent s).pollList = s.pollList := rfl
@[simp] theorem judgeVent_changes : (judgeVent s).changes = s.changes := rfl
@[simp] theorem judgeVent_hold : (judgeVent s).hold = s.hold := rfl
@[simp] theorem judgeVent_holdCount : (judgeVent s).holdCount = s.holdCount := rfl
@[simp] theorem judgeVent_transits : (judgeVent s).transits = s.transits := rfl
@[simp] theorem judgeVent_transitCount : (judgeVent s).transitCount = s.transitCount := rfl
@[simp] theorem judgeVent_trunkPort : (judgeVent s).trunkPort = s.trunkPort := rfl
@[simp] theorem judgeVent_trunkAddress : (judgeVent s).trunkAddress = s.trunkAddress := rfl
@[simp] theorem judgeVent_trunkRate : (judgeVent s).trunkRate = s.trunkRate := rfl
@[simp] theorem judgeVent_store : (judgeVent s).store = s.store := rfl
@[simp] theorem judgeVent_storeValid : (judgeVent s).storeValid = s.storeValid := rfl
@[simp] theorem judgeVent_save : (judgeVent s).save = s.save := rfl
@[simp] theorem judgeVent_events : (judgeVent s).events = s.events := rfl
@[simp] theorem judgeVent_lost : (judgeVent s).lost = s.lost := rfl

end

/-! ## judgeFans -/

section
variable (s : State)

@[simp] theorem judgeFans_pending : (judgeFans s).pending = s.pending := rfl
@[simp] theorem judgeFans_work : (judgeFans s).work = s.work := rfl
@[simp] theorem judgeFans_draws : (judgeFans s).draws = s.draws := rfl
@[simp] theorem judgeFans_inReset : (judgeFans s).inReset = s.inReset := rfl
@[simp] theorem judgeFans_mode : (judgeFans s).mode = s.mode := rfl
@[simp] theorem judgeFans_warmupLeft : (judgeFans s).warmupLeft = s.warmupLeft := rfl
@[simp] theorem judgeFans_tables : (judgeFans s).tables = s.tables := rfl
@[simp] theorem judgeFans_chains : (judgeFans s).chains = s.chains := rfl
@[simp] theorem judgeFans_channels : (judgeFans s).channels = s.channels := rfl
@[simp] theorem judgeFans_zones : (judgeFans s).zones = s.zones := rfl
@[simp] theorem judgeFans_groups : (judgeFans s).groups = s.groups := rfl
@[simp] theorem judgeFans_fans : (judgeFans s).fans = s.fans := rfl
@[simp] theorem judgeFans_segment : (judgeFans s).segment = s.segment := rfl
@[simp] theorem judgeFans_timerOn : (judgeFans s).timerOn = s.timerOn := rfl
@[simp] theorem judgeFans_deferredTick : (judgeFans s).deferredTick = s.deferredTick := rfl
@[simp] theorem judgeFans_cycleCount : (judgeFans s).cycleCount = s.cycleCount := rfl
@[simp] theorem judgeFans_contention : (judgeFans s).contention = s.contention := rfl
@[simp] theorem judgeFans_countdown : (judgeFans s).countdown = s.countdown := rfl
@[simp] theorem judgeFans_transaction : (judgeFans s).transaction = s.transaction := rfl
@[simp] theorem judgeFans_dispatched : (judgeFans s).dispatched = s.dispatched := rfl
@[simp] theorem judgeFans_releaseLine : (judgeFans s).releaseLine = s.releaseLine := rfl
@[simp] theorem judgeFans_pollList : (judgeFans s).pollList = s.pollList := rfl
@[simp] theorem judgeFans_changes : (judgeFans s).changes = s.changes := rfl
@[simp] theorem judgeFans_hold : (judgeFans s).hold = s.hold := rfl
@[simp] theorem judgeFans_holdCount : (judgeFans s).holdCount = s.holdCount := rfl
@[simp] theorem judgeFans_transits : (judgeFans s).transits = s.transits := rfl
@[simp] theorem judgeFans_transitCount : (judgeFans s).transitCount = s.transitCount := rfl
@[simp] theorem judgeFans_trunkPort : (judgeFans s).trunkPort = s.trunkPort := rfl
@[simp] theorem judgeFans_trunkAddress : (judgeFans s).trunkAddress = s.trunkAddress := rfl
@[simp] theorem judgeFans_trunkRate : (judgeFans s).trunkRate = s.trunkRate := rfl
@[simp] theorem judgeFans_store : (judgeFans s).store = s.store := rfl
@[simp] theorem judgeFans_storeValid : (judgeFans s).storeValid = s.storeValid := rfl
@[simp] theorem judgeFans_save : (judgeFans s).save = s.save := rfl
@[simp] theorem judgeFans_events : (judgeFans s).events = s.events := rfl
@[simp] theorem judgeFans_lost : (judgeFans s).lost = s.lost := rfl

end

/-! ## judgeHealthy -/

section
variable (s : State)

@[simp] theorem judgeHealthy_pending : (judgeHealthy s).pending = s.pending := rfl
@[simp] theorem judgeHealthy_work : (judgeHealthy s).work = s.work := rfl
@[simp] theorem judgeHealthy_draws : (judgeHealthy s).draws = s.draws := rfl
@[simp] theorem judgeHealthy_inReset : (judgeHealthy s).inReset = s.inReset := rfl
@[simp] theorem judgeHealthy_mode : (judgeHealthy s).mode = s.mode := rfl
@[simp] theorem judgeHealthy_warmupLeft : (judgeHealthy s).warmupLeft = s.warmupLeft := rfl
@[simp] theorem judgeHealthy_tables : (judgeHealthy s).tables = s.tables := rfl
@[simp] theorem judgeHealthy_chains : (judgeHealthy s).chains = s.chains := rfl
@[simp] theorem judgeHealthy_channels : (judgeHealthy s).channels = s.channels := rfl
@[simp] theorem judgeHealthy_zones : (judgeHealthy s).zones = s.zones := rfl
@[simp] theorem judgeHealthy_groups : (judgeHealthy s).groups = s.groups := rfl
@[simp] theorem judgeHealthy_fans : (judgeHealthy s).fans = s.fans := rfl
@[simp] theorem judgeHealthy_segment : (judgeHealthy s).segment = s.segment := rfl
@[simp] theorem judgeHealthy_timerOn : (judgeHealthy s).timerOn = s.timerOn := rfl
@[simp] theorem judgeHealthy_deferredTick : (judgeHealthy s).deferredTick = s.deferredTick := rfl
@[simp] theorem judgeHealthy_cycleCount : (judgeHealthy s).cycleCount = s.cycleCount := rfl
@[simp] theorem judgeHealthy_contention : (judgeHealthy s).contention = s.contention := rfl
@[simp] theorem judgeHealthy_countdown : (judgeHealthy s).countdown = s.countdown := rfl
@[simp] theorem judgeHealthy_transaction : (judgeHealthy s).transaction = s.transaction := rfl
@[simp] theorem judgeHealthy_dispatched : (judgeHealthy s).dispatched = s.dispatched := rfl
@[simp] theorem judgeHealthy_releaseLine : (judgeHealthy s).releaseLine = s.releaseLine := rfl
@[simp] theorem judgeHealthy_pollList : (judgeHealthy s).pollList = s.pollList := rfl
@[simp] theorem judgeHealthy_changes : (judgeHealthy s).changes = s.changes := rfl
@[simp] theorem judgeHealthy_hold : (judgeHealthy s).hold = s.hold := rfl
@[simp] theorem judgeHealthy_holdCount : (judgeHealthy s).holdCount = s.holdCount := rfl
@[simp] theorem judgeHealthy_transits : (judgeHealthy s).transits = s.transits := rfl
@[simp] theorem judgeHealthy_transitCount : (judgeHealthy s).transitCount = s.transitCount := rfl
@[simp] theorem judgeHealthy_trunkPort : (judgeHealthy s).trunkPort = s.trunkPort := rfl
@[simp] theorem judgeHealthy_trunkAddress : (judgeHealthy s).trunkAddress = s.trunkAddress := rfl
@[simp] theorem judgeHealthy_trunkRate : (judgeHealthy s).trunkRate = s.trunkRate := rfl
@[simp] theorem judgeHealthy_store : (judgeHealthy s).store = s.store := rfl
@[simp] theorem judgeHealthy_storeValid : (judgeHealthy s).storeValid = s.storeValid := rfl
@[simp] theorem judgeHealthy_save : (judgeHealthy s).save = s.save := rfl
@[simp] theorem judgeHealthy_events : (judgeHealthy s).events = s.events := rfl
@[simp] theorem judgeHealthy_lost : (judgeHealthy s).lost = s.lost := rfl

end

/-! ## withPending -/

section
variable (cs : List Instr) (s : State)

@[simp] theorem withPending_pending : (s.withPending cs).pending = cs := rfl
@[simp] theorem withPending_work : (s.withPending cs).work = s.work := rfl
@[simp] theorem withPending_draws : (s.withPending cs).draws = s.draws := rfl
@[simp] theorem withPending_inReset : (s.withPending cs).inReset = s.inReset := rfl
@[simp] theorem withPending_mode : (s.withPending cs).mode = s.mode := rfl
@[simp] theorem withPending_warmupLeft : (s.withPending cs).warmupLeft = s.warmupLeft := rfl
@[simp] theorem withPending_tables : (s.withPending cs).tables = s.tables := rfl
@[simp] theorem withPending_chains : (s.withPending cs).chains = s.chains := rfl
@[simp] theorem withPending_channels : (s.withPending cs).channels = s.channels := rfl
@[simp] theorem withPending_zones : (s.withPending cs).zones = s.zones := rfl
@[simp] theorem withPending_groups : (s.withPending cs).groups = s.groups := rfl
@[simp] theorem withPending_fans : (s.withPending cs).fans = s.fans := rfl
@[simp] theorem withPending_outputs : (s.withPending cs).outputs = s.outputs := rfl
@[simp] theorem withPending_segment : (s.withPending cs).segment = s.segment := rfl
@[simp] theorem withPending_timerOn : (s.withPending cs).timerOn = s.timerOn := rfl
@[simp] theorem withPending_deferredTick : (s.withPending cs).deferredTick = s.deferredTick := rfl
@[simp] theorem withPending_cycleCount : (s.withPending cs).cycleCount = s.cycleCount := rfl
@[simp] theorem withPending_contention : (s.withPending cs).contention = s.contention := rfl
@[simp] theorem withPending_countdown : (s.withPending cs).countdown = s.countdown := rfl
@[simp] theorem withPending_transaction : (s.withPending cs).transaction = s.transaction := rfl
@[simp] theorem withPending_dispatched : (s.withPending cs).dispatched = s.dispatched := rfl
@[simp] theorem withPending_releaseLine : (s.withPending cs).releaseLine = s.releaseLine := rfl
@[simp] theorem withPending_pollList : (s.withPending cs).pollList = s.pollList := rfl
@[simp] theorem withPending_changes : (s.withPending cs).changes = s.changes := rfl
@[simp] theorem withPending_hold : (s.withPending cs).hold = s.hold := rfl
@[simp] theorem withPending_holdCount : (s.withPending cs).holdCount = s.holdCount := rfl
@[simp] theorem withPending_transits : (s.withPending cs).transits = s.transits := rfl
@[simp] theorem withPending_transitCount : (s.withPending cs).transitCount = s.transitCount := rfl
@[simp] theorem withPending_trunkPort : (s.withPending cs).trunkPort = s.trunkPort := rfl
@[simp] theorem withPending_trunkAddress : (s.withPending cs).trunkAddress = s.trunkAddress := rfl
@[simp] theorem withPending_trunkRate : (s.withPending cs).trunkRate = s.trunkRate := rfl
@[simp] theorem withPending_store : (s.withPending cs).store = s.store := rfl
@[simp] theorem withPending_storeValid : (s.withPending cs).storeValid = s.storeValid := rfl
@[simp] theorem withPending_save : (s.withPending cs).save = s.save := rfl
@[simp] theorem withPending_events : (s.withPending cs).events = s.events := rfl
@[simp] theorem withPending_lost : (s.withPending cs).lost = s.lost := rfl

end

end Sys2Proof.Machine
end

