-- ==== Sys2Proof/Laws/Ops.lean ====
section
/-! SUPPORT. What each shared operation of Machine/Ops.lean can do: the free orders are permutations, a property kept by each
turn is kept by the whole, a post changes the queue and the lost count in one of three ways, and a record replaced reads as
written. -/

namespace Sys2Proof.Machine

/-! ## Replaced records -/

theorem channels_setChannel (i j : Fin 64) (r : ChannelRecord) (s : State) :
    (setChannel i r s).channels[j] = if i = j then r else s.channels[j] := by
  simp [Vector.getElem_set, Fin.ext_iff]

theorem zones_setZone (z y : Fin 16) (r : ZoneRecord) (s : State) :
    (setZone z r s).zones[y] = if z = y then r else s.zones[y] := by
  simp [Vector.getElem_set, Fin.ext_iff]

theorem groups_setGroup (g h : Fin 4) (r : GroupRecord) (s : State) :
    (setGroup g r s).groups[h] = if g = h then r else s.groups[h] := by
  simp [Vector.getElem_set, Fin.ext_iff]

theorem fans_setFan (f k : Fin 8) (r : FanRecord) (s : State) :
    (setFan f r s).fans[k] = if f = k then r else s.fans[k] := by
  simp [Vector.getElem_set, Fin.ext_iff]

/-! ## Orders -/

theorem orderFrom_perm {α : Type} (d n : Nat) (xs : List α) : (orderFrom d n xs).Perm xs := by
  induction n generalizing xs with
  | zero => simp [orderFrom]
  | succ k ih =>
    match xs with
    | [] => simp [orderFrom]
    | [x] => simp [orderFrom]
    | x :: y :: zs =>
      simp only [orderFrom]
      have hi : Config.pick d k % (zs.length + 2) < (x :: y :: zs).length := Nat.mod_lt _ (by omega)
      rw [List.getD_eq_getElem _ _ hi]
      exact ((ih _).cons _).trans (List.getElem_cons_eraseIdx_perm hi)

/-- An order drawn for a list holds each of its records once, as the list does. -/
theorem freeOrder_perm {α : Type} (d : Nat) (xs : List α) : (freeOrder d xs).Perm xs := orderFrom_perm d _ xs

/-- Drawing an order moves nothing but the count of occasions. -/
theorem drawn_eq {α : Type} (xs : List α) (s : State) : drawn xs s = { s with draws := (drawn xs s).draws } := by
  unfold drawn; split <;> rfl

/-- What holds before, whatever the count of occasions, and is kept by `f` on each record of the list, holds after `f` on
all of them. -/
theorem forEachFree_induction {α : Type} {P : State → Prop} {xs : List α} {f : α → State → State} {s : State}
    (start : ∀ n, P { s with draws := n }) (turn : ∀ x ∈ xs, ∀ t, P t → P (f x t)) : P (forEachFree xs f s) := by
  have fold : ∀ (ys : List α), (∀ y ∈ ys, y ∈ xs) → ∀ t, P t → P (ys.foldl (fun t x => f x t) t) := by
    intro ys
    induction ys with
    | nil => exact fun _ t ht => ht
    | cons y ys ih =>
      intro hy t ht
      exact ih (fun z hz => hy z (List.mem_cons_of_mem _ hz)) _ (turn y (hy y List.mem_cons_self) t ht)
  refine fold _ (fun y hy => (freeOrder_perm _ _).mem_iff.mp hy) _ ?_
  rw [drawn_eq]; exact start _

/-- The same for `f` on each of some groups. -/
theorem forEachGroup_induction {P : State → Prop} {gs : List (Fin 4)} {f : Fin 4 → State → State} {s : State}
    (start : P s) (draws : ∀ t n, P t → P { t with draws := n }) (turn : ∀ g ∈ gs, ∀ t, P t → P (f g t)) :
    P (forEachGroup gs f s) := by
  have fold : ∀ (ys : List (Fin 4)), (∀ y ∈ ys, y ∈ gs) → ∀ t, P t → P (ys.foldl (fun t x => f x t) t) := by
    intro ys
    induction ys with
    | nil => exact fun _ t ht => ht
    | cons y ys ih =>
      intro hy t ht
      exact ih (fun z hz => hy z (List.mem_cons_of_mem _ hz)) _ (turn y (hy y List.mem_cons_self) t ht)
  have quiet := fold (gs.filter fun g => quietGroup s g) (fun y hy => List.mem_of_mem_filter hy) s start
  exact forEachFree_induction (fun n => draws _ n quiet) fun g hg => turn g (List.mem_of_mem_filter hg)

/-! ## Events -/

/-- What a post does to the queue and the lost count (R192). -/
theorem postInto_cases (q : List EventRecord) (lost : Nat) (e : EventRecord) :
    (∃ p r, q = p ++ [r] ∧ (r.kind = e.kind ∧ r.subject = e.subject ∧ r.detail = e.detail) ∧
      postInto q lost e = (p ++ [{ r with repeats := min 15 (r.repeats + 1) }], lost)) ∨
    ((∀ p r, q = p ++ [r] → ¬ (r.kind = e.kind ∧ r.subject = e.subject ∧ r.detail = e.detail)) ∧ q.length < 48 ∧
      postInto q lost e = (q ++ [e], lost)) ∨
    ((∀ p r, q = p ++ [r] → ¬ (r.kind = e.kind ∧ r.subject = e.subject ∧ r.detail = e.detail)) ∧ 48 ≤ q.length ∧
      postInto q lost e = (q, min 255 (lost + 1))) := by
  rcases List.eq_nil_or_concat q with rfl | ⟨p, r, rfl⟩
  · exact .inr (.inl ⟨by simp, by simp, rfl⟩)
  · by_cases same : r.kind = e.kind ∧ r.subject = e.subject ∧ r.detail = e.detail
    · exact .inl ⟨p, r, by simp, same, by simp [postInto, same]⟩
    · have other : ∀ p' r', p.concat r = p' ++ [r'] →
          ¬ (r'.kind = e.kind ∧ r'.subject = e.subject ∧ r'.detail = e.detail) := by
        intro p' r' h
        have : p = p' ∧ r = r' := by simpa using h
        exact this.2 ▸ same
      by_cases room : (p.concat r).length < 48
      · exact .inr (.inl ⟨other, room, by simp_all [postInto]⟩)
      · exact .inr (.inr ⟨other, by omega, by
          have : ¬ p.length + 1 < 48 := by simpa using room
          simp [postInto, same, this]⟩)

/-- A post changes nothing but the queue and the lost count. -/
theorem post_eq (k : EventKind) (n : Nat) (d : Half) (s : State) :
    post k n d s = { s with events := (post k n d s).events, lost := (post k n d s).lost } := rfl

/-! ## Stages -/

theorem le_largest {xs : List Nat} {x : Nat} (h : x ∈ xs) : x ≤ largest xs := by
  induction xs with
  | nil => cases h
  | cons y ys ih =>
    rcases List.mem_cons.mp h with rfl | h'
    · exact Nat.le_max_left _ _
    · exact (ih h').trans (Nat.le_max_right _ _)

theorem largest_le {xs : List Nat} {n : Nat} (h : ∀ x ∈ xs, x ≤ n) : largest xs ≤ n := by
  induction xs with
  | nil => exact Nat.zero_le n
  | cons y ys ih => exact Nat.max_le.mpr ⟨h y List.mem_cons_self, ih fun x hx => h x (List.mem_cons_of_mem _ hx)⟩

theorem largest_mem {xs : List Nat} (h : xs ≠ []) : largest xs ∈ xs := by
  induction xs with
  | nil => exact absurd rfl h
  | cons y ys ih =>
    by_cases hy : ys = []
    · subst hy; simp [largest]
    · rcases Nat.le_total y (largest ys) with hle | hle
      · have : largest (y :: ys) = largest ys := Nat.max_eq_right hle
        exact this.symm ▸ List.mem_cons_of_mem _ (ih hy)
      · have : largest (y :: ys) = y := Nat.max_eq_left hle
        rw [this]; exact List.mem_cons_self

end Sys2Proof.Machine
end

