-- ==== Sys2Proof/Laws/Frames.lean ====
section
/-! SUPPORT. What each shared operation of the fan supervisor, the sequencer, the evaluator, the apply procedure and the
survey completion may change, and that it changes nothing else. A frame names the fields that may change. -/

namespace Sys2Proof.Machine

/-! ## The frames -/

/-- Only the count of drawn orders changed. -/
def DrawFrame (s t : State) : Prop := t = { s with draws := t.draws }

/-- Only fan records, and with them the queue, changed. -/
def FanFrame (s t : State) : Prop := t = { s with draws := t.draws, fans := t.fans, events := t.events, lost := t.lost }

/-- Only fan and group records and output levels changed. -/
def GroupFrame (s t : State) : Prop :=
  t = { s with draws := t.draws, fans := t.fans, events := t.events, lost := t.lost, groups := t.groups,
               outputs := t.outputs }

/-- Only zone, fan and group records and output levels changed. -/
def ZoneFrame (s t : State) : Prop :=
  t = { s with draws := t.draws, fans := t.fans, events := t.events, lost := t.lost, groups := t.groups,
               outputs := t.outputs, zones := t.zones }

/-- Only what an applied record touches changed. -/
def ApplyFrame (s t : State) : Prop :=
  t = { s with draws := t.draws, fans := t.fans, events := t.events, lost := t.lost, groups := t.groups,
               outputs := t.outputs, zones := t.zones, channels := t.channels, tables := t.tables, chains := t.chains,
               pollList := t.pollList, changes := t.changes }

/-- Only what the work of a completion touches changed. -/
def WorkFrame (s t : State) : Prop :=
  t = { s with draws := t.draws, fans := t.fans, events := t.events, lost := t.lost, groups := t.groups,
               outputs := t.outputs, zones := t.zones, channels := t.channels, work := t.work, warmupLeft := t.warmupLeft,
               segment := t.segment, countdown := t.countdown, transaction := t.transaction, dispatched := t.dispatched,
               holdCount := t.holdCount, transits := t.transits }

theorem DrawFrame.refl (s : State) : DrawFrame s s := rfl
theorem FanFrame.refl (s : State) : FanFrame s s := rfl
theorem GroupFrame.refl (s : State) : GroupFrame s s := rfl
theorem ZoneFrame.refl (s : State) : ZoneFrame s s := rfl
theorem ApplyFrame.refl (s : State) : ApplyFrame s s := rfl
theorem WorkFrame.refl (s : State) : WorkFrame s s := rfl

theorem DrawFrame.trans {s t u : State} (h : DrawFrame s t) (k : DrawFrame t u) : DrawFrame s u := by
  unfold DrawFrame at *; rw [h] at k; exact k

theorem FanFrame.trans {s t u : State} (h : FanFrame s t) (k : FanFrame t u) : FanFrame s u := by
  unfold FanFrame at *; rw [h] at k; exact k

theorem GroupFrame.trans {s t u : State} (h : GroupFrame s t) (k : GroupFrame t u) : GroupFrame s u := by
  unfold GroupFrame at *; rw [h] at k; exact k

theorem ZoneFrame.trans {s t u : State} (h : ZoneFrame s t) (k : ZoneFrame t u) : ZoneFrame s u := by
  unfold ZoneFrame at *; rw [h] at k; exact k

theorem ApplyFrame.trans {s t u : State} (h : ApplyFrame s t) (k : ApplyFrame t u) : ApplyFrame s u := by
  unfold ApplyFrame at *; rw [h] at k; exact k

theorem WorkFrame.trans {s t u : State} (h : WorkFrame s t) (k : WorkFrame t u) : WorkFrame s u := by
  unfold WorkFrame at *; rw [h] at k; exact k

theorem DrawFrame.fan {s t : State} (h : DrawFrame s t) : FanFrame s t := by unfold FanFrame; rw [h]
theorem FanFrame.group {s t : State} (h : FanFrame s t) : GroupFrame s t := by unfold GroupFrame; rw [h]
theorem GroupFrame.zone {s t : State} (h : GroupFrame s t) : ZoneFrame s t := by unfold ZoneFrame; rw [h]
theorem ZoneFrame.apply {s t : State} (h : ZoneFrame s t) : ApplyFrame s t := by unfold ApplyFrame; rw [h]
theorem ZoneFrame.work {s t : State} (h : ZoneFrame s t) : WorkFrame s t := by unfold WorkFrame; rw [h]

/-! ## Each of some records in turn -/

theorem forEachFree_fanFrame {α : Type} {xs : List α} {f : α → State → State}
    (h : ∀ x s, FanFrame s (f x s)) (s : State) : FanFrame s (forEachFree xs f s) :=
  forEachFree_induction (P := FanFrame s) (fun _ => rfl) fun x _ t k => k.trans (h x t)

theorem forEachGroup_groupFrame {gs : List (Fin 4)} {f : Fin 4 → State → State}
    (h : ∀ g s, GroupFrame s (f g s)) (s : State) : GroupFrame s (forEachGroup gs f s) :=
  forEachGroup_induction (P := GroupFrame s) (GroupFrame.refl s) (fun _ _ k => k.trans rfl)
    fun g _ t k => k.trans (h g t)

/-! ## The fan supervisor -/

theorem post_fanFrame (k : EventKind) (n : Nat) (d : Half) (s : State) : FanFrame s (post k n d s) := rfl
theorem setFan_fanFrame (f : Fin 8) (r : FanRecord) (s : State) : FanFrame s (setFan f r s) := rfl
theorem setGroup_groupFrame (g : Fin 4) (r : GroupRecord) (s : State) : GroupFrame s (setGroup g r s) := rfl
theorem judgeAlarm_groupFrame (s : State) : GroupFrame s (judgeAlarm s) := rfl
theorem judgeAll_groupFrame (s : State) : GroupFrame s (judgeAll s) := rfl
theorem judgeFans_groupFrame (s : State) : GroupFrame s (judgeFans s) := rfl
theorem judgeVent_groupFrame (s : State) : GroupFrame s (judgeVent s) := rfl
theorem judgeHealthy_groupFrame (s : State) : GroupFrame s (judgeHealthy s) := rfl

theorem changeFan_fanFrame (f : Fin 8) (r : FanRecord) (s : State) : FanFrame s (changeFan f r s) := by
  unfold changeFan; dsimp only; split
  · rfl
  · exact (setFan_fanFrame f r s).trans (post_fanFrame _ _ _ _)

theorem startFan_fanFrame (f : Fin 8) (s : State) : FanFrame s (startFan f s) := changeFan_fanFrame _ _ s
theorem stopFan_fanFrame (f : Fin 8) (s : State) : FanFrame s (stopFan f s) := changeFan_fanFrame _ _ s
theorem failFan_fanFrame (w : Reason) (f : Fin 8) (s : State) : FanFrame s (failFan w f s) := changeFan_fanFrame _ _ s
theorem manualFan_fanFrame (f : Fin 8) (s : State) : FanFrame s (manualFan f s) := changeFan_fanFrame _ _ s

theorem actOnMember_fanFrame (g : Fin 4) (j : Bool) (f : Fin 8) (s : State) : FanFrame s (actOnMember g j f s) := by
  unfold actOnMember; dsimp only
  repeat' split
  all_goals first | rfl | exact changeFan_fanFrame _ _ s

theorem takeBackFan_fanFrame (g : Fin 4) (f : Fin 8) (s : State) : FanFrame s (takeBackFan g f s) := by
  unfold takeBackFan
  repeat' split
  all_goals exact changeFan_fanFrame _ _ s

theorem judgeFan_fanFrame (f : Fin 8) (s : State) : FanFrame s (judgeFan f s) := by
  unfold judgeFan; dsimp only
  repeat' split
  all_goals first | exact changeFan_fanFrame _ _ s | exact failFan_fanFrame _ f s | rfl

theorem changeCondition_groupFrame (g : Fin 4) (s : State) : GroupFrame s (changeCondition g s) := by
  unfold changeCondition; dsimp only; split
  · rfl
  · exact ((setGroup_groupFrame g _ s).trans (post_fanFrame _ _ _ _).group).trans (judgeAlarm_groupFrame _)

theorem recomputeRunSet_groupFrame (g : Fin 4) (s : State) : GroupFrame s (recomputeRunSet g s) :=
  ((setGroup_groupFrame g _ s).trans (forEachFree_fanFrame (fun f => actOnMember_fanFrame g _ f) _).group).trans
    (changeCondition_groupFrame g _)

theorem startsAndStops_fanFrame (g : Fin 4) (s : State) : FanFrame s (startsAndStops g s) := by
  unfold startsAndStops; split
  · exact forEachFree_fanFrame stopFan_fanFrame s
  · exact forEachFree_fanFrame startFan_fanFrame s

theorem failOver_groupFrame (g : Fin 4) (s : State) : GroupFrame s (failOver g s) := by
  unfold failOver; split
  · exact recomputeRunSet_groupFrame g s
  · rfl

theorem judgeGroup_groupFrame (g : Fin 4) (s : State) : GroupFrame s (judgeGroup g s) :=
  forEachFree_induction (P := GroupFrame s) (fun _ => rfl) fun f _ t k =>
    (k.trans (judgeFan_fanFrame f t).group).trans (judgeAlarm_groupFrame _)

theorem superviseGroup_groupFrame (g : Fin 4) (s : State) : GroupFrame s (superviseGroup g s) :=
  (judgeGroup_groupFrame g s).trans (failOver_groupFrame g _)

theorem foldl_fanFrame {α : Type} {f : State → α → State} (h : ∀ s x, FanFrame s (f s x)) (xs : List α) (s : State) :
    FanFrame s (xs.foldl f s) := by
  induction xs generalizing s with
  | nil => rfl
  | cons x xs ih => exact (h s x).trans (ih _)

theorem writeSetpoints_fanFrame (g : Fin 4) (s : State) : FanFrame s (writeSetpoints g s) :=
  foldl_fanFrame (fun s f => by unfold writeSetpoint; split <;> rfl) _ s

theorem beginGroupStep_fanFrame (g : Fin 4) (s : State) : FanFrame s (beginGroupStep g s) :=
  foldl_fanFrame (fun s f => by unfold ageStart; split <;> rfl) _ s

theorem handOverGroup_groupFrame (g : Fin 4) (s : State) : GroupFrame s (handOverGroup g s) :=
  (setGroup_groupFrame g _ s).trans (forEachFree_fanFrame manualFan_fanFrame _).group

theorem takeBackGroup_groupFrame (g : Fin 4) (s : State) : GroupFrame s (takeBackGroup g s) :=
  (setGroup_groupFrame g _ s).trans (forEachFree_fanFrame (takeBackFan_fanFrame g) _).group

/-! ## The ventilation sequencer -/

theorem judgeHandOver_groupFrame (g : Fin 4) (s : State) : GroupFrame s (judgeHandOver g s) := by
  unfold judgeHandOver; dsimp only
  repeat' split
  all_goals first | exact takeBackGroup_groupFrame g s | exact handOverGroup_groupFrame g s | rfl

theorem restage_groupFrame (g : Fin 4) (s : State) : GroupFrame s (restage g s) :=
  (setGroup_groupFrame g _ s).trans (judgeHandOver_groupFrame g _)

theorem changeStack_groupFrame (g : Fin 4) (cs : List Context) (s : State) : GroupFrame s (changeStack g cs s) :=
  (setGroup_groupFrame g _ s).trans (judgeHandOver_groupFrame g _)

theorem countExpiry_groupFrame (g : Fin 4) (s : State) : GroupFrame s (countExpiry g s) := by
  unfold countExpiry; dsimp only
  repeat' split
  all_goals rfl

theorem expireTop_groupFrame (g : Fin 4) (s : State) : GroupFrame s (expireTop g s) := by
  unfold expireTop; split
  · exact ((post_fanFrame _ _ _ s).group.trans (changeStack_groupFrame g _ _)).trans (judgeAlarm_groupFrame _)
  · rfl

theorem updateStage_groupFrame (g : Fin 4) (s : State) : GroupFrame s (updateStage g s) := setGroup_groupFrame g _ s

theorem regroup_groupFrame (s : State) : GroupFrame s (regroup s) :=
  (forEachGroup_groupFrame restage_groupFrame s).trans (forEachGroup_groupFrame recomputeRunSet_groupFrame _)

/-! ## The zone evaluator -/

theorem replaceZone_zoneFrame (z : Fin 16) (r : ZoneRecord) (s : State) : ZoneFrame s (replaceZone z r s) := by
  unfold replaceZone postSpill postRising postZoneState; dsimp only
  repeat' split
  all_goals rfl

theorem writeZone_zoneFrame (z : Fin 16) (r : ZoneRecord) (s : State) : ZoneFrame s (writeZone z r s) := by
  unfold writeZone; dsimp only
  refine ZoneFrame.trans ?_ (judgeAlarm_groupFrame _).zone
  split
  · exact replaceZone_zoneFrame z r s
  · exact (replaceZone_zoneFrame z r s).trans (forEachGroup_groupFrame restage_groupFrame _).zone

theorem evaluateGas_zoneFrame (z : Fin 16) (s : State) : ZoneFrame s (evaluateGas z s) := by
  unfold evaluateGas; exact writeZone_zoneFrame z _ s

theorem evaluateRising_zoneFrame (z : Fin 16) (s : State) : ZoneFrame s (evaluateRising z s) := by
  unfold evaluateRising; exact writeZone_zoneFrame z _ s

theorem evaluateContacts_zoneFrame (z : Fin 16) (s : State) : ZoneFrame s (evaluateContacts z s) := by
  unfold evaluateContacts; exact writeZone_zoneFrame z _ s

theorem evaluateSpill_zoneFrame (z : Fin 16) (s : State) : ZoneFrame s (evaluateSpill z s) := by
  unfold evaluateSpill; exact writeZone_zoneFrame z _ s

theorem evaluateZone_zoneFrame (z : Fin 16) (s : State) : ZoneFrame s (evaluateZone z s) := by
  unfold evaluateZone
  exact (((evaluateGas_zoneFrame z s).trans (evaluateRising_zoneFrame z _)).trans (evaluateContacts_zoneFrame z _)).trans
    (evaluateSpill_zoneFrame z _)

/-! ## The apply procedure -/

theorem forEachGroup_applyFrame {gs : List (Fin 4)} {f : Fin 4 → State → State}
    (h : ∀ g s, GroupFrame s (f g s)) (s : State) : ApplyFrame s (forEachGroup gs f s) :=
  (forEachGroup_groupFrame h s).zone.apply

theorem applyChange_applyFrame (c : Change) (s : State) : ApplyFrame s (applyChange c s) := by
  cases c with
  | binding i e =>
    show ApplyFrame s (applyBinding i e s)
    unfold applyBinding takeNotice setChannel; dsimp only; split <;> rfl
  | zone z e =>
    show ApplyFrame s (applyZone z e s)
    unfold applyZone; dsimp only
    repeat' split
    · rfl
    · rfl
    · refine ApplyFrame.trans ?_ (forEachGroup_applyFrame restage_groupFrame _)
      exact ApplyFrame.trans (t := { s with tables := { s.tables with zones := s.tables.zones.set z (storedZone e) } }) rfl
        (replaceZone_zoneFrame z _ _).apply
  | group g e =>
    show ApplyFrame s (applyGroup g e s)
    unfold applyGroup; dsimp only
    repeat' split
    · rfl
    · rfl
    · refine ApplyFrame.trans ?_ (recomputeRunSet_groupFrame g _).zone.apply
      refine ApplyFrame.trans ?_ (restage_groupFrame g _).zone.apply
      rfl
  | fan f e =>
    show ApplyFrame s (applyFan f e s)
    have join : ∀ t, FanFrame t (joinHandOver f e t) := fun t => by
      unfold joinHandOver; split
      · exact manualFan_fanFrame f t
      · rfl
    unfold applyFan; dsimp only
    have first : ∀ old, ApplyFrame s (recomputeRunSet old (joinHandOver f e (changeFan f FanRecord.cleared
        { s with tables := { s.tables with fans := s.tables.fans.set f e } }))) := fun old =>
      ApplyFrame.trans (t := { s with tables := { s.tables with fans := s.tables.fans.set f e } }) rfl
        ((((changeFan_fanFrame f _ _).trans (join _)).group.trans (recomputeRunSet_groupFrame old _)).zone.apply)
    repeat' split
    · rfl
    · exact first _
    · exact (first _).trans (recomputeRunSet_groupFrame _ _).zone.apply
  | device e => rfl

theorem applyRecords_applyFrame (cs : List Change) (s : State) : ApplyFrame s (applyRecords cs s).1 := by
  induction cs generalizing s with
  | nil => rfl
  | cons c cs ih =>
    unfold applyRecords; split
    · exact ((applyChange_applyFrame c s).trans (judgeAlarm_groupFrame _).zone.apply).trans (ih _)
    · exact (post_fanFrame _ _ _ s).group.zone.apply.trans (ih _)

/-- Every record of the list is applied or rejected (R160). -/
theorem applyRecords_count (cs : List Change) (s : State) :
    (applyRecords cs s).2.1 + (applyRecords cs s).2.2 = cs.length := by
  induction cs generalizing s with
  | nil => rfl
  | cons c cs ih =>
    unfold applyRecords; split
    · have := ih (judgeAlarm (applyChange c s)); simp only [List.length_cons]; omega
    · have := ih (post .tableReject c.table.code (detailOf (Reject.code ‹_›) c.index) s)
      simp only [List.length_cons]; omega

theorem closeTables_applyFrame (n : Nat) (s : State) : ApplyFrame s (closeTables n s) := by
  unfold closeTables; dsimp only; split
  · rfl
  · exact (forEachGroup_applyFrame recomputeRunSet_groupFrame s).trans rfl

theorem application_applyFrame (s : State) : ApplyFrame s (application s) := by
  unfold application; dsimp only
  refine ApplyFrame.trans ?_ ((post_fanFrame _ _ _ _).group.trans (judgeAll_groupFrame _)).zone.apply
  exact ((applyRecords_applyFrame _ s).trans (closeTables_applyFrame _ _)).trans rfl

theorem applyPoint_applyFrame (s : State) : ApplyFrame s (applyPoint s) := by
  unfold applyPoint; split
  · exact application_applyFrame s
  · rfl

/-! ## The work of a completion -/

theorem postHealth_fanFrame (i : Fin 64) (a b : Health) (s : State) : FanFrame s (postHealth i a b s) := by
  unfold postHealth; split <;> rfl

theorem ageChannels_workFrame (s : State) : WorkFrame s (ageChannels s) := by
  unfold ageChannels
  refine WorkFrame.trans ?_ (forEachFree_fanFrame (fun i => postHealth_fanFrame i _ _) _).group.zone.work
  rfl

theorem dispatchNext_workFrame (s : State) : WorkFrame s (dispatchNext s) := by
  unfold dispatchNext; dsimp only
  repeat' split
  all_goals rfl

theorem doWork_workFrame (w : Work) (s : State) : WorkFrame s (doWork w s) := by
  cases w with
  | age => exact ageChannels_workFrame s
  | evaluate z => exact (evaluateZone_zoneFrame z s).work
  | endPass => rfl
  | stepBegins g => exact (beginGroupStep_fanFrame g s).group.zone.work
  | countExpiry g => exact (countExpiry_groupFrame g s).zone.work
  | stageUpdate g => rfl
  | startsStops g => exact ((startsAndStops_fanFrame g s).group.trans (judgeAlarm_groupFrame _)).zone.work
  | supervise g => exact (superviseGroup_groupFrame g s).zone.work
  | setpoints g => exact ((writeSetpoints_fanFrame g s).group.trans (judgeFans_groupFrame _)).zone.work
  | countHold => unfold doWork; dsimp only; split <;> rfl
  | countWarmup => unfold doWork; dsimp only; split <;> rfl
  | countFaulted => unfold doWork; dsimp only; split <;> rfl
  | close =>
    unfold doWork; dsimp only; split
    · unfold beginDispatch
      refine WorkFrame.trans ?_ (dispatchNext_workFrame _)
      rfl
    · rfl

/-- What holds before and is kept by each piece of work that ends no count holds after the work, wherever it pauses. -/
theorem runWork_induction {P : State → Prop} (done : ∀ ws s, P s → P { s with work := ws })
    (piece : ∀ w s, endsCount s w = false → P s → P (doWork w s)) (ws : List Work) (s : State) (h : P s) :
    P (runWork ws s) := by
  induction ws generalizing s with
  | nil => exact done _ s h
  | cons w ws ih =>
    unfold runWork; split
    · exact done _ s h
    · rename_i going
      exact ih _ (piece w s (by simpa using going) h)

theorem runWork_workFrame (ws : List Work) (s : State) : WorkFrame s (runWork ws s) :=
  runWork_induction (P := WorkFrame s) (fun _ _ h => h.trans rfl) (fun w t _ h => h.trans (doWork_workFrame w t)) ws s rfl

/-- What is left of the work is an end of what was to be done, its first piece one that ends a count. -/
theorem runWork_rest (ws : List Work) (s : State) :
    (runWork ws s).work <:+ ws ∧ ∀ w vs, (runWork ws s).work = w :: vs → ∃ t, endsCount t w = true := by
  induction ws generalizing s with
  | nil => exact ⟨List.suffix_refl _, fun w vs h => by cases h⟩
  | cons w ws ih =>
    unfold runWork; split
    · exact ⟨List.suffix_refl _, fun v vs h => by cases h; exact ⟨s, ‹_›⟩⟩
    · exact ⟨(ih _).1.trans (List.suffix_cons _ _), (ih _).2⟩

theorem drawOrder_drawFrame {α : Type} (xs : List α) (s : State) : DrawFrame s (drawOrder xs s).2 := drawn_eq xs s

/-- Laying out the work of a completion draws its orders and changes nothing else. -/
theorem completionWork_drawFrame (b : Bool) (s : State) : DrawFrame s (completionWork b s).2 := by
  unfold completionWork
  exact ((drawOrder_drawFrame _ s).trans (drawOrder_drawFrame _ _)).trans (drawOrder_drawFrame _ _)

/-- A survey completion counts its cycle and does its work, and changes nothing else (R142). -/
theorem surveyCompletion_workFrame (b : Bool) (s : State) :
    WorkFrame { s with cycleCount := s.cycleCount + 1 } (surveyCompletion b s) := by
  unfold surveyCompletion
  exact (completionWork_drawFrame b _).fan.group.zone.work.trans (runWork_workFrame _ _)

end Sys2Proof.Machine
end

