-- ==== Sys2Proof/Laws/Blocks.lean ====
section
/-! SUPPORT. What the blocks' functions say, once for each: the bytes of numbers, the output functions, the hand-over, the
addresses of the poll list, the walk of the transit queue, and the taking of a request. -/

namespace Sys2Proof.Machine

/-! ## Bytes and codes -/

theorem byteOf_toNat {n : Nat} (h : n < 256) : (byteOf n).toNat = n := by
  simp [byteOf, Nat.mod_eq_of_lt h]

theorem byteOf_toNat_self (b : Byte) : byteOf b.toNat = b := by simp [byteOf]

theorem joinBytes_halfBytes (h : Half) : joinBytes (h.extractLsb' 8 8) (h.extractLsb' 0 8) = h := by
  apply BitVec.eq_of_getLsbD_eq
  intro i hi
  simp only [joinBytes, BitVec.getLsbD_append, BitVec.getLsbD_extractLsb']
  split
  · rename_i low
    simp [low]
  · have : 8 + (i - 8) = i := by omega
    have lt : i - 8 < 8 := by omega
    simp [this, lt]

/-- The two bytes of a number below 65536 read back as it (R179). -/
theorem joinBytes_halfOf {n : Nat} (h : n < 65536) : ∃ hi lo, halfOf n = [hi, lo] ∧ (joinBytes hi lo).toNat = n :=
  ⟨_, _, rfl, by rw [joinBytes_halfBytes]; simp [Nat.mod_eq_of_lt h]⟩

theorem finOf_val {n : Nat} (i : Fin n) : finOf n i.val = some i := by simp [finOf]

theorem finOf_eq_none {n k : Nat} : finOf n k = none ↔ n ≤ k := by
  unfold finOf; split
  · simp; omega
  · simp; omega

theorem tableOfCode_code (t : TableId) : tableOfCode t.code = some t := by cases t <;> rfl

theorem overrideOfCode_code (k : OverrideKind) : overrideOfCode k.code = some k := by cases k <;> rfl

theorem frameKindOfCode_code (k : FrameKind) : frameKindOfCode k.code = some k := by cases k <;> rfl

theorem frameKindOfCode_eq_none {n : Nat} : frameKindOfCode n = none ↔ n ∉ [0x10, 0x12, 0x13] := by
  unfold frameKindOfCode; simp only [List.mem_cons, List.not_mem_nil, or_false, not_or]
  repeat' split
  all_goals simp_all

/-! ## Output functions -/

theorem chargeFunction_iff (s : State) :
    chargeFunction s = true ↔
      s.mode = .run ∧ ∀ z : Fin 16, s.zones[z].gas ≠ .alert ∧ s.zones[z].gas ≠ .alarm ∧ s.zones[z].gas ≠ .fault := by
  simp only [chargeFunction, Bool.and_eq_true, beq_iff_eq, List.all_eq_true, Vector.mem_toList_iff, Vector.mem_iff_getElem]
  refine and_congr Iff.rfl ⟨fun h z => ?_, fun h r ⟨i, hi, hr⟩ => ?_⟩
  · have := h s.zones[z] ⟨z, z.isLt, rfl⟩
    simpa [and_assoc] using this
  · subst hr; simpa [and_assoc] using h ⟨i, hi⟩

theorem soundsBeacon_iff (r : ZoneRecord) :
    soundsBeacon r = true ↔
      (r.gas = .alarm ∧ r.alarmAck = false) ∨ ((r.spill = .wet ∨ r.spill = .latched) ∧ r.spillAck = false) := by
  simp [soundsBeacon]

theorem beaconFunction_iff (s : State) :
    beaconFunction s = true ↔
      ∃ z : Fin 16, (s.zones[z].gas = .alarm ∧ s.zones[z].alarmAck = false) ∨
        ((s.zones[z].spill = .wet ∨ s.zones[z].spill = .latched) ∧ s.zones[z].spillAck = false) := by
  simp only [beaconFunction, List.any_eq_true, Vector.mem_toList_iff, Vector.mem_iff_getElem]
  refine ⟨fun ⟨r, ⟨i, hi, hr⟩, h⟩ => ⟨⟨i, hi⟩, ?_⟩, fun ⟨z, h⟩ => ⟨s.zones[z], ⟨z, z.isLt, rfl⟩, ?_⟩⟩
  · subst hr; exact (soundsBeacon_iff _).mp h
  · exact (soundsBeacon_iff _).mpr h

/-- In a mode other than RUN the three functions with a mode term are de-energized. -/
theorem functions_outside_run {s : State} (h : s.mode ≠ .run) :
    chargeFunction s = false ∧ ventFunction s = .unproven ∧ healthyFunction s = false := by
  have hm : (s.mode == Mode.run) = false := by simpa using h
  refine ⟨?_, ?_, ?_⟩
  · simp [chargeFunction, hm]
  · unfold ventFunction; rw [if_pos (Or.inl h)]
  · simp [healthyFunction, hm]

/-- Judging toward the alarming direction energizes none of the three permissive outputs. -/
theorem judgeAlarm_lowers (s : State) :
    ((judgeAlarm s).outputs.chargePermit = true → s.outputs.chargePermit = true ∧ chargeFunction s = true) ∧
    ((judgeAlarm s).outputs.ventProven = true → s.outputs.ventProven = true ∧ ventFunction s ≠ .unproven) ∧
    ((judgeAlarm s).outputs.healthy = true → s.outputs.healthy = true ∧ healthyFunction s = true) := by
  simp [judgeAlarm]

/-! ## Hand-over -/

/-- Judging a group's hand-over sets its flag to what is due, and changes no other field of any group. -/
theorem judgeHandOver_groups (g : Fin 4) (s : State) :
    (judgeHandOver g s).groups = s.groups.set g { s.groups[g] with handOver := handOverDue s.mode s.groups[g] } := by
  have fan : ∀ {t u : State}, FanFrame t u → u.groups = t.groups := fun h => by rw [h]
  unfold judgeHandOver; dsimp only
  split
  · rename_i same
    rw [same]; ext i hi; simp [Vector.getElem_set]
    rintro rfl; rfl
  · rename_i other
    split
    · rename_i set
      have due : handOverDue s.mode s.groups[g] = false := by
        rw [Fin.getElem_fin] at *; revert other; rw [set]; simp
      unfold takeBackGroup
      rw [fan (forEachFree_fanFrame (takeBackFan_fanFrame g) _), due]; rfl
    · rename_i clear
      have due : handOverDue s.mode s.groups[g] = true := by
        rw [Fin.getElem_fin] at *; revert other; simp only [Bool.not_eq_true] at clear; rw [clear]; simp
      unfold handOverGroup
      rw [fan (forEachFree_fanFrame manualFan_fanFrame _), due]; rfl

theorem handOverDue_iff (m : Mode) (r : GroupRecord) :
    handOverDue m r = true ↔ m ≠ .standby ∧ (∃ c cs, r.stack = c :: cs ∧ c.kind = .manual) ∧ r.floor = 0 := by
  unfold handOverDue
  cases h : r.stack with
  | nil => simp
  | cons c cs => simp [and_assoc]

/-- A recomputed group: its stages as the inputs give them, the floor rule applied, and the hand-over due. -/
theorem restage_groups (g : Fin 4) (s : State) :
    (restage g s).groups =
      s.groups.set g { restaged s g with handOver := handOverDue s.mode (restaged s g) } := by
  unfold restage
  rw [judgeHandOver_groups]
  ext i hi
  simp only [setGroup_groups, Vector.getElem_set, setGroup_mode]
  split <;> simp_all

theorem changeStack_groups (g : Fin 4) (cs : List Context) (s : State) :
    (changeStack g cs s).groups =
      s.groups.set g
        (let r : GroupRecord := { s.groups[g] with
          stack := cs, effective := effectiveOf s.mode { s.groups[g] with stack := cs } }
         { r with handOver := handOverDue s.mode r }) := by
  unfold changeStack; dsimp only
  rw [judgeHandOver_groups]
  ext i hi
  simp only [setGroup_groups, Vector.getElem_set, setGroup_mode]
  split <;> simp_all

/-! ## The poll list -/

theorem mem_insertAddress {a b : Nat} {l : List Nat} : b ∈ insertAddress a l ↔ b = a ∨ b ∈ l := by
  induction l with
  | nil => simp [insertAddress]
  | cons c cs ih =>
    unfold insertAddress
    split
    · simp
    · split
      · rename_i h; subst h; simp
      · simp only [List.mem_cons, ih]; tauto

theorem insertAddress_ascending {a : Nat} {l : List Nat} (h : l.Pairwise (· < ·)) :
    (insertAddress a l).Pairwise (· < ·) := by
  induction l with
  | nil => simp [insertAddress]
  | cons c cs ih =>
    rw [List.pairwise_cons] at h
    unfold insertAddress
    split
    · rename_i hac
      refine List.pairwise_cons.mpr ⟨fun x hx => ?_, List.pairwise_cons.mpr h⟩
      rcases List.mem_cons.mp hx with rfl | hx
      · exact hac
      · exact hac.trans (h.1 x hx)
    · split
      · exact List.pairwise_cons.mpr h
      · refine List.pairwise_cons.mpr ⟨fun x hx => ?_, ih h.2⟩
        rcases mem_insertAddress.mp hx with rfl | hx
        · omega
        · exact h.1 x hx

/-- The addresses of the rebuilt list stand in ascending order (R131). -/
theorem pollAddresses_ascending (ts : Tables) : (pollAddresses ts).Pairwise (· < ·) := by
  unfold pollAddresses
  generalize (_ ++ _ : List Nat) = l
  induction l with
  | nil => exact List.Pairwise.nil
  | cons a l ih => exact insertAddress_ascending ih

/-- They are exactly the addresses with a valid binding or an enabled fan's drive (R131). -/
theorem mem_pollAddresses (ts : Tables) (a : Nat) :
    a ∈ pollAddresses ts ↔
      (∃ i : Fin 64, ts.bindings[i].valid = true ∧ ts.bindings[i].node = a) ∨
      (∃ f : Fin 8, ts.fans[f].enabled = true ∧ ts.fans[f].driveNode = a) := by
  have fold : ∀ l : List Nat, a ∈ l.foldr insertAddress [] ↔ a ∈ l := by
    intro l
    induction l with
    | nil => rfl
    | cons b l ih => rw [List.foldr_cons, mem_insertAddress, ih, List.mem_cons]
  unfold pollAddresses
  rw [fold]; simp [List.mem_map, List.mem_filter]

theorem pollEntry_address (ts : Tables) (l : List PollEntry) (a : Nat) : (pollEntry ts l a).address = a := by
  unfold pollEntry; split
  · rename_i h; simpa using List.find?_some h
  · rfl

theorem rebuiltList_addresses (ts : Tables) (l : List PollEntry) :
    (rebuiltList ts l).map (·.address) = pollAddresses ts := by
  simp [rebuiltList, Function.comp_def, pollEntry_address]

/-! ## Chains -/

/-- A built chain holds exactly the valid slots whose key falls in its bucket, each once, in ascending order (R4). -/
theorem builtChains_get (bs : Vector Binding 64) (b : Fin 16) :
    (builtChains bs)[b] = (List.finRange 64).filter fun i => bs[i].valid && bindingBucket bs[i] == b := by
  simp [builtChains]

/-! ## The store -/

/-- A store with its image's check value loads what the image decodes to (R190). -/
theorem loadStore_checked (image : List Byte) :
    loadStore { image := image, check := some (crc image) } = decodeTables image := by
  simp [loadStore]

/-- The image and check value of a snapshot agree with it (R191). -/
theorem readBackAgrees_written (ts : Tables) :
    readBackAgrees ts { image := encodeTables ts, check := some (crc (encodeTables ts)) } = true := by
  simp [readBackAgrees]

/-! ## The transit queue -/

/-- What the walk of the transit queue gives: no WAITING entry permitted, each of them now DENIED; or the first permitted
WAITING entry, now SENT, those before it DENIED. -/
theorem takeWaiting_cases (s : State) (es : List TransitEntry) :
    let denied (e : TransitEntry) : TransitEntry := if e.state = .waiting then { e with state := .done .denied } else e
    ((∀ e ∈ es, e.state = .waiting → permitted s e.kind e.dest = false) ∧ takeWaiting s es = (es.map denied, none)) ∨
    (∃ before e after, es = before ++ e :: after ∧ e.state = .waiting ∧ permitted s e.kind e.dest = true ∧
      (∀ d ∈ before, d.state = .waiting → permitted s d.kind d.dest = false) ∧
      takeWaiting s es = (before.map denied ++ { e with state := .sent } :: after, some e)) := by
  intro denied
  induction es with
  | nil => exact .inl ⟨by simp, rfl⟩
  | cons e es ih =>
    unfold takeWaiting
    by_cases waits : e.state = .waiting
    · by_cases may : permitted s e.kind e.dest = true
      · exact .inr ⟨[], e, es, rfl, waits, may, by simp, by simp [waits, may]⟩
      · have may : permitted s e.kind e.dest = false := by simpa using may
        rcases ih with ⟨none, eq⟩ | ⟨before, x, after, rfl, wx, mx, nb, eq⟩
        · exact .inl ⟨by simpa [may] using none, by simp [waits, may, eq, denied]⟩
        · refine .inr ⟨e :: before, x, after, rfl, wx, mx, by simpa [may] using nb, ?_⟩
          simp [waits, may, eq, denied]
    · rcases ih with ⟨none, eq⟩ | ⟨before, x, after, rfl, wx, mx, nb, eq⟩
      · exact .inl ⟨by simpa [waits] using none, by simp [waits, eq, denied]⟩
      · refine .inr ⟨e :: before, x, after, rfl, wx, mx, by simpa [waits] using nb, ?_⟩
        simp [waits, eq, denied]

/-! ## Run sets -/

/-- A recomputed run set is the one R105 selects, with the condition it gives (R107); nothing else of any group changes. -/
theorem recomputeRunSet_groups (g : Fin 4) (s : State) :
    (recomputeRunSet g s).groups =
      s.groups.set g { s.groups[g] with
        runSet := selectRunSet s.tables s.fans g
        condition := conditionOf s.tables g (selectRunSet s.tables s.fans g).length } := by
  have change : ∀ t : State, (changeCondition g t).groups =
      t.groups.set g { t.groups[g] with condition := conditionOf t.tables g t.groups[g].runSet.length } := by
    intro t
    unfold changeCondition; dsimp only
    split
    · rename_i same
      rw [same]; ext i hi; simp [Vector.getElem_set]
      rintro rfl; rfl
    · rfl
  have fan : ∀ {t u : State}, FanFrame t u → u.groups = t.groups ∧ u.tables = t.tables := fun h => by rw [h]; exact ⟨rfl, rfl⟩
  unfold recomputeRunSet; dsimp only
  rw [change]
  obtain ⟨hg, ht⟩ := fan (forEachFree_fanFrame (xs := (List.finRange 8).filter fun f =>
      s.groups[g].runSet.contains f != (selectRunSet s.tables s.fans g).contains f)
    (fun f => actOnMember_fanFrame g ((selectRunSet s.tables s.fans g).contains f) f)
    (setGroup g { s.groups[g] with runSet := selectRunSet s.tables s.fans g } s))
  rw [hg, ht]
  ext i hi
  simp only [setGroup_groups, setGroup_tables, Vector.getElem_set]
  split <;> simp_all

/-! ## Requests -/

theorem listens_iff (s : State) : listens s = true ↔ s.Listening := by
  simp [listens, State.Listening, and_assoc]

/-- The port takes exactly the frames of good CRC for its own address (R168). -/
theorem hears_iff (s : State) (chars : List Byte) (f : Frame) :
    hears s chars = some f ↔
      s.Listening ∧ receive trunkLimit chars = .frame f ∧ f.dst = s.trunkAddress.setWidth 8 := by
  unfold hears
  cases h : receive trunkLimit chars with
  | frame k =>
    dsimp only
    split
    · rename_i ok
      constructor
      · rintro ⟨⟩; exact ⟨(listens_iff s).mp ok.1, rfl, ok.2⟩
      · rintro ⟨-, ⟨⟩, -⟩; rfl
    · rename_i no
      constructor
      · rintro ⟨⟩
      · rintro ⟨l, ⟨⟩, d⟩; exact absurd ⟨(listens_iff s).mpr l, d⟩ no
  | _ => simp

/-- A request the port takes (R169). -/
theorem takes_of {s : State} {code src : Byte} {payload chars : List Byte} (h : s.Takes code src payload chars) :
    takes s code chars =
      some { dst := s.trunkAddress.setWidth 8, src := src, kind := code, payload := payload } := by
  unfold takes; rw [(hears_iff s chars _).mpr ⟨h.1, h.2, rfl⟩]; simp

/-- A request taken: its work is done and its reply formed (R169). -/
theorem answerRequest_taken {s : State} {code src : Byte} {payload chars : List Byte}
    (h : s.Takes code src payload chars) (work : List Byte → State → Answer) :
    answerRequest code chars work s =
      answered code src (work payload s).result (work payload s).data (work payload s).state := by
  unfold answerRequest; rw [takes_of h]; rfl

/-- The same for a request after which the work of a completion goes on. -/
theorem answerAndResume_taken {s : State} {code src : Byte} {payload chars : List Byte}
    (h : s.Takes code src payload chars) (work : List Byte → State → Answer) :
    answerAndResume code chars work s =
      resume (answered code src (work payload s).result (work payload s).data (work payload s).state) := by
  unfold answerAndResume; rw [takes_of h]; rfl

/-- Characters the port does not take change nothing (R168). -/
theorem answerRequest_ignored {s : State} {code : Byte} {chars : List Byte} (h : takes s code chars = none)
    (work : List Byte → State → Answer) : answerRequest code chars work s = s ∧ answerAndResume code chars work s = s := by
  simp [answerRequest, answerAndResume, h]

/-- The characters of a frame are received as that frame, when its payload is within the segment's limit. -/
theorem receive_markedChars {limit : Nat} {f : Frame} (n : f.payload.length ≤ limit) (small : limit < 256) :
    receive limit (markedChars f) = .frame f := by
  have len : (byteOf f.payload.length).toNat = f.payload.length := byteOf_toNat (by omega)
  unfold markedChars frameBody receive
  simp only [List.cons_append, List.nil_append, len, if_neg (Nat.not_lt.mpr n), List.drop_left, List.take_left, halfBytes]
  rw [joinBytes_halfBytes]; simp [frameBody]

/-- A listening part takes a request sent to it (R168). -/
theorem takes_asked {s : State} {code src : Byte} {payload : List Byte} (h : s.Listening) (n : payload.length ≤ 120) :
    s.Takes code src payload (s.station :: s.asked code src payload) :=
  ⟨h, receive_markedChars n (by decide)⟩

end Sys2Proof.Machine
end

