-- ==== Sys2Proof/WellFormed.lean ====
section
/-! DEFINITION. The commands whose operands are of the form the part can meet: receptions that have ended, request frames of
good CRC with the row's code from an address within 0..127, and store cells that exist. -/

namespace Sys2Proof

open Sys2Proof.Machine

/-- R129, R168: the characters of a reception that has ended, none missing and none beyond its end. -/
def completeReception (limit : Nat) (chars : List Byte) : Bool :=
  match chars with
  | _ :: _ :: _ :: len :: rest => if limit < len.toNat then rest.isEmpty else rest.length == len.toNat + 2
  | _ => false

/-- R168, R181: the characters of a request frame of good CRC, from an address within 0..127, with a code as asked. -/
def requestFits (codeFits : Byte → Bool) (chars : List Byte) : Bool :=
  completeReception trunkLimit chars &&
    (match receive trunkLimit chars with
     | .frame f => codeFits f.kind && decide (f.src.toNat ≤ 127)
     | _ => false)

/-- The command's operands are well formed. The store has 1021 image bytes and 2 of the check value (R190). -/
def Instr.wellFormed : Instr → Bool
  | .resetAsserted => true
  | .deviceReset _ _ => true
  | .cycleTick => true
  | .deferredTick => true
  | .frameTransmitted => true
  | .contentionMismatch => true
  | .fieldReceptionEnd chars => completeReception fieldLimit chars
  | .framingError => true
  | .replyTimeout => true
  | .nextAttempt => true
  | .overrideExpired => true
  | .proofTimeout => true
  | .holdExpired => true
  | .warmupCountEnd => true
  | .faultedCountdownEnd => true
  | .serviceReleaseAsserted => true
  | .serviceReleaseDeasserted => true
  | .saveCompletion cells => cells.all fun c => decide (c.1 < 1023)
  | .trunkFrameDropped => true
  | .unknownRequest dst src chars => requestFits (fun c => !catalogCodes.contains c) (dst :: src :: chars)
  | .replySent _ _ => true
  | .status dst chars => requestFits (· == 0x40) (dst :: chars)
  | .readChannel dst chars => requestFits (· == 0x41) (dst :: chars)
  | .readZone dst chars => requestFits (· == 0x42) (dst :: chars)
  | .readGroup dst chars => requestFits (· == 0x43) (dst :: chars)
  | .readFan dst chars => requestFits (· == 0x44) (dst :: chars)
  | .readNode dst chars => requestFits (· == 0x45) (dst :: chars)
  | .readTable dst chars => requestFits (· == 0x46) (dst :: chars)
  | .writeTable dst chars => requestFits (· == 0x50) (dst :: chars)
  | .hold dst chars => requestFits (· == 0x51) (dst :: chars)
  | .discard dst chars => requestFits (· == 0x52) (dst :: chars)
  | .save dst chars => requestFits (· == 0x53) (dst :: chars)
  | .run dst chars => requestFits (· == 0x58) (dst :: chars)
  | .standby dst chars => requestFits (· == 0x59) (dst :: chars)
  | .restart dst chars => requestFits (· == 0x5A) (dst :: chars)
  | .acknowledge dst chars => requestFits (· == 0x60) (dst :: chars)
  | .pushOverride dst chars => requestFits (· == 0x61) (dst :: chars)
  | .popOverride dst chars => requestFits (· == 0x62) (dst :: chars)
  | .fanReset dst chars => requestFits (· == 0x63) (dst :: chars)
  | .fetchEvents dst chars => requestFits (· == 0x68) (dst :: chars)
  | .pass dst chars => requestFits (· == 0x70) (dst :: chars)
  | .collect dst chars => requestFits (· == 0x71) (dst :: chars)
  | .openingMarkReceived => true
  | .checkValueErased => true
  | .checkValueWritten => true

end Sys2Proof
end

