-- ==== Sys2Proof/Tests/Slice0.lean ====
section
/-! SUPPORT. The model's own tests, each about one function or one step. Expected values come from the manual's worked
examples and tables (named in each docstring) or from hand calculation from its rules; CRC values from an independent
implementation of R128's polynomial. The last part gives, for each statement with hypotheses, values that meet them. -/

namespace Sys2Proof.Machine.Tests

set_option maxRecDepth 20000

/-! ## A small site -/

/-- The state after one command. -/
def after (c : Instr) (s : State) : State :=
  match exec c s with
  | .next t => t
  | _ => s

/-- The detector of the worked example of chapter 2. -/
def detector : Binding := { Binding.default with valid := true, node := 20, zone := 2, zeroOffset := 96, span := 70, shift := 2 }

/-- One hydrogen detector at node 20, one at node 36, one fan with its airflow point at node 90. -/
def siteTables : Tables :=
  { Tables.default with
    bindings := ((Tables.default.bindings.set 14 detector).set 15 { detector with node := 36 }).set 50
      { detector with node := 90, point := 2, kind := .airflow }
    zones := Tables.default.zones.set 2 { ZoneEntry.default with enabled := true, groupMask := 8 }
    fans := Tables.default.fans.set 6
      { FanEntry.default with enabled := true, driveNode := 90, group := 3, airflowSlot := some 50 } }

/-- The site after a RESTART. -/
def site : State := restartRuntime { State.reset with tables := siteTables, chains := builtChains siteTables.bindings }

/-- The site in RUN with the segment WAITING. -/
def running : State :=
  { site with mode := .run, timerOn := true, segment := .waiting, zones := site.zones.set 2 (ZoneRecord.cleared .normal) }

/-- An attempt to a node of the poll list. -/
def attempt (a left : Nat) (p : Phase) : State :=
  { running with
    segment := .polling
    transaction := some { owner := .poll a, frame := fieldFrame a .query [1], left := left, phase := p } }

/-- A transit entry SENT to node 36. -/
def sentEntry (k : FrameKind) : TransitEntry :=
  { sequence := 18, dest := 36, kind := k, payload := [1], state := .sent, reading := [] }

/-- Its frame in flight, the dispatch's second. -/
def transit (k : FrameKind) (p : Phase) : State :=
  { running with
    segment := .transit, dispatched := 2, transits := [sentEntry k]
    transaction := some { owner := .transit, frame := fieldFrame 36 k [1], left := 0, phase := p } }

/-- Channel `i` GOOD with a filtered value. -/
def good (i : Fin 64) (f : Nat) (s : State) : State :=
  setChannel i { ChannelRecord.restarted .good with filtered := f, conditioned := f } s

/-- The reply a request from source 7 leaves in the port of the site. -/
def replied (code : Byte) (payload : List Byte) : TrunkPort :=
  .answering { dst := 7, src := 1, kind := code, payload := payload } false

/-! ## Functions, by the manual's worked examples -/

/-- R128: the check value of this CRC over the nine digits. -/
theorem test_crc_digits : crc [0x31, 0x32, 0x33, 0x34, 0x35, 0x36, 0x37, 0x38, 0x39] = 0x29B1 := by decide

/-- 2 "conditioning a hydrogen detector": raw codes 980, 40, 4000, 96; zero offset 300 with raw code 20. -/
theorem test_conditioning :
    conditionRaw detector 980 = 241 ∧ conditionRaw detector 40 = -16 ∧ conditionRaw detector 4000 = 1067 ∧
      conditionRaw detector 96 = 0 ∧ conditionRaw { detector with zeroOffset := 300 } 20 = -77 ∧
      limit (-16) = some { value := 0, lowClamp := true, overrange := false } ∧ limit (-77) = none ∧
      limit 1067 = some { value := 1000, lowClamp := false, overrange := true } := by decide

/-- The same: the filter's steps. -/
theorem test_smoothing :
    smooth 180 241 2 = 195 ∧ smooth 195 241 2 = 206 ∧ smooth 238 241 2 = 239 ∧ smooth 241 241 2 = 241 ∧
      smooth 206 145 2 = 191 ∧ smooth 206 0 2 = 155 := by decide

/-- 2 "warm-up, settling ...": cycles 1, 3, 5 and 6 of slot 14. -/
theorem test_settling :
    let c1 := sampleRecord detector 2 (ChannelRecord.restarted .unseen) 980 true false
    let c3 := sampleRecord detector 2 c1 985 false false
    let c5 := sampleRecord detector 2 c3 985 false false
    let c6 := sampleRecord detector 2 c5 1020 false false
    (c1.health, c1.filtered, c1.settleLeft) = (.settling, 241, 2) ∧
      (c3.health, c3.filtered, c3.settleLeft) = (.settling, 243, 1) ∧ (c5.health, c5.filtered) = (.good, 243) ∧
      (c6.health, c6.filtered) = (.good, 245) := by decide

/-- The same: aging to HELD and to STALE at the limit of 3. -/
theorem test_aging :
    let c := { ChannelRecord.restarted .good with filtered := 245 }
    (ageRecord 3 c).health = .held ∧ (ageRecord 3 (ageRecord 3 c)).health = .held ∧
      (ageRecord 3 (ageRecord 3 (ageRecord 3 c))).health = .stale := by decide

/-- A zone of default levels decided on readings. -/
def decided (g : Gas) (ack : Bool) (vs : List Nat) : ZoneRecord :=
  decideGas .run ZoneEntry.default { ZoneRecord.cleared g with alarmAck := ack } { values := vs, settling := 0, bound := 3 }

/-- 3 "an alarm, its latch and its acknowledgement": evaluations E1 to E9. -/
theorem test_gas_states :
    (decided .normal false [60, 55, 58]).gas = .normal ∧ (decided .normal false [180, 120, 90]).gas = .watch ∧
      (decided .watch false [420, 300, 260]).gas = .alert ∧ (decided .alert false [480, 410, 330]).gas = .alarm ∧
      (decided .alarm false [390, 380, 300]).gas = .alarm ∧ (decided .alarm true [385, 375, 290]).gas = .alarm ∧
      (decided .alarm true [380, 360, 280]).gas = .alert ∧ (decided .alarm true [380, 360, 280]).alarmAck = false ∧
      (decided .alert false [200, 190, 150]).gas = .watch ∧ (decided .watch false [60, 50, 40]).gas = .normal := by decide

/-- 3 "a degraded vote, NO_SENSE and FAULT": E5, E6 and E7. -/
theorem test_gas_without_sense :
    let blind (s : Nat) (r : ZoneRecord) := decideGas .run ZoneEntry.default r { values := [], settling := s, bound := 2 }
    let e4 := { ZoneRecord.cleared .alarm with reading := 430 }
    let e5 := blind 0 e4
    let e6 := blind 0 { e5 with alarmAck := true }
    (e5.gas, e5.noSense, e5.reading) = (.alarm, true, 430) ∧ (e6.gas, e6.noSense, e6.alarmAck) = (.fault, false, false) ∧
      (blind 1 e6).gas = .fault ∧ (blind 2 (ZoneRecord.cleared .watch)).gas = .watch := by decide

/-- 3 "the rate-of-rise window": E4, E5, E8 and E9. -/
theorem test_rising :
    let e : ZoneEntry := { ZoneEntry.default with rateWindow := 3 }
    let at_ (on : Bool) (ring : List Nat) (r : Nat) : ZoneRecord :=
      decideRising e { ZoneRecord.cleared .normal with healthy := 1, rising := on, ring := ring, reading := r }
    (at_ false [20, 25, 35] 50).rising = false ∧ (at_ false [20, 25, 35, 50] 70).rising = true ∧
      (at_ true [20, 25, 35, 50, 70, 85, 90] 92).rising = true ∧
      (at_ true [20, 25, 35, 50, 70, 85, 90, 92] 95).rising = false ∧
      (at_ true [20, 25, 35, 50, 70, 85, 90, 92] 95).ring = [25, 35, 50, 70, 85, 90, 92, 95] := by decide

/-- 4 "a spill, its latch and its acknowledgement": S2 to S5. -/
theorem test_spill :
    let step (wet dry : Bool) (r : ZoneRecord) : ZoneRecord :=
      decideSpill { bound := 2, healthy := 2, wet := wet, allDry := dry } r
    let s2 := step true false (ZoneRecord.cleared .normal)
    let s4 := step false true (step false false s2)
    let s5 := step false true (acknowledgeRecord s4)
    s2.spill = .wet ∧ (step false false s2).spill = .wet ∧ s4.spill = .latched ∧ (s5.spill, s5.spillAck) = (.dry, false) ∧
      (step true false (acknowledgeRecord s4)).spill = .wet := by decide

/-- 1.2 and the examples of 1 and 9: buckets. -/
theorem test_buckets :
    bucketOf 20 0 = 4 ∧ bucketOf 36 0 = 4 ∧ bucketOf 29 1 = 4 ∧ bucketOf 52 3 = 9 ∧ bucketOf 52 2 = 2 := by decide

/-- 5 "an alarm and its run-on": E7 to E9 with a run-on setting of 3, and the rise at E2. -/
theorem test_run_on :
    let g : GroupRecord := { GroupRecord.cleared with effective := 1, commanded := 4 }
    (stepStage 3 g).runOn = 1 ∧ ((stepStage 3)^[2] g).commanded = 4 ∧ ((stepStage 3)^[3] g).commanded = 3 ∧
      ((stepStage 3)^[3] g).runOn = 0 ∧ (stepStage 3 { g with commanded := 0 }).commanded = 1 := by decide

/-- 1 "a batch that moves a key": record 2 applied, record 1 refused KEY_COLLISION before it and accepted after it. -/
theorem test_move_key :
    let new : Binding := { detector with zone := 3, node := 36 }
    let moved := applyChange (.binding 15 { detector with node := 40 }) site
    changeRejects site (.binding 9 new) = some .keyCollision ∧ changeRejects moved (.binding 9 new) = none ∧
      moved.chains[4] = [14] ∧ moved.chains[8] = [50, 15] ∧ moved.channels[15].health = .unseen := by decide

/-- 9 "a batch with a collision inside it": LEVEL_ORDER and DUPLICATE_DRIVE; R161: the stored hysteresis. -/
theorem test_rejects :
    changeRejects site (.zone 6 { ZoneEntry.default with watch := 120, alert := 300, alarm := 280 }) = some .levelOrder ∧
      changeRejects site (.fan 5 { FanEntry.default with enabled := true, driveNode := 90 }) = some .duplicateDrive ∧
      changeRejects running (.device DeviceEntry.default) = some .notInStandby ∧
      (storedZone { ZoneEntry.default with watch := 20, hysteresis := 40 }).hysteresis = 20 := by decide

/-- 11 "a full queue": the first four rows. -/
theorem test_full_queue :
    let overrun (stamp : BitVec 32) (s : State) : State :=
      post .cycleOverrun 0 (detailOf 0 36) { s with cycleCount := stamp }
    let first : EventRecord := { kind := .nodeState, subject := 91, detail := detailOf 0x21 1, stamp := 9000, repeats := 1 }
    let start : State := { State.reset with events := List.replicate 47 first }
    let two := overrun 9002 (overrun 9001 start)
    let full := post .fanState 1 (detailOf 0x23 2) two
    two.events.length = 48 ∧ (two.events.getLast?.map fun e => (e.stamp, e.repeats)) = some (9001, 2) ∧
      (full.events.length, full.lost) = (48, 1) ∧ (overrun 9003 full).lost = 1 := by decide

/-- A WAITING transit entry. -/
def waitingEntry (dest : Nat) (k : FrameKind) : TransitEntry :=
  { sequence := 19, dest := dest, kind := k, payload := [1], state := .waiting, reading := [] }

/-- The site at the last piece of a completion, with a transit queue. -/
def closing (es : List TransitEntry) : State := { running with segment := .polling, transits := es }

/-- R143, R176: a DRIVE without a hand-over is DENIED at dispatch, the QUERY behind it SENT; with no entry the segment is
WAITING. -/
theorem test_dispatch :
    let s := runWork [.close] (closing [waitingEntry 90 .drive, waitingEntry 36 .query])
    s.segment = .transit ∧ (s.transits.map (·.state)) = [.done .denied, .sent] ∧
      s.transaction.map (·.frame) = some (fieldFrame 36 .query [1]) ∧
      (runWork [.close] (closing [])).segment = .waiting := by decide

/-- The site's group 3 with fan 5 before fan 6 and a run count of 1, at commanded stage 2. -/
def pairTables : Tables :=
  { siteTables with
    fans := siteTables.fans.set 5 { FanEntry.default with enabled := true, driveNode := 91, group := 3 }
    groups := siteTables.groups.set 3 { GroupEntry.default with runCount := 1 } }

/-- Fan 5 failed, fan 6 STARTING, with its proof timer about to end. -/
def judging : State :=
  setGroup 3 { running.groups[3] with commanded := 2, runSet := [6] }
    (setFan 5 { FanRecord.cleared with state := .failed, reason := .lostFlow }
      (setFan 6 { FanRecord.cleared with state := .starting, timer := 1, setpoint := 50 }
        { running with tables := pairTables, work := [.supervise 3, .setpoints 3] }))

/-- Log 1: a completion waits for fan 6's PROOF_TIMEOUT, and a MANUAL pushed over it hands fan 6 over and lets it go on, while
a FAN-RESET of a fan that is not FAILED leaves it waiting. -/
theorem test_requests_resume :
    let s := after (.pushOverride 1 [7, 0x61, 7, 3, 2, 0, 0, 100, 3, 3, 0xB5, 0xFB]) { judging with tables := siteTables }
    (s.fans[6].state, s.work) = (.manual, []) ∧
      (after (.fanReset 1 [7, 0x63, 1, 7, 0x6B, 0x9D]) judging).work = [.supervise 3, .setpoints 3] := by decide

/-- R112, R105, R107: fan 5 of a run set of two fails: it leaves the run set in the same command, and the group is DEGRADED. -/
theorem test_proofTimeout_failover :
    let s := after .proofTimeout
      (setGroup 3 { running.groups[3] with commanded := 2, runSet := [5, 6] }
        (setFan 5 { FanRecord.cleared with state := .starting, timer := 1 }
          { running with
            tables := { pairTables with
              fans := pairTables.fans.set 5 { pairTables.fans[5] with airflowSlot := some 50 }
              groups := siteTables.groups.set 3 { GroupEntry.default with runCount := 2 } }
            work := [.supervise 3] }))
    (s.fans[5].state, s.fans[5].reason) = (.failed, .noProof) ∧
      (s.groups[3].runSet, s.groups[3].condition) = ([6], .degraded) := by decide

/-- R133: node 20 is a SENSOR entry; node 90 drives fan 6, outside and under a hand-over of group 3. -/
theorem test_poll_frames :
    let s := setFan 6 { FanRecord.cleared with state := .running, setpoint := 50 } running
    let handed := setGroup 3 { s.groups[3] with handOver := true } s
    pollFrame s (pollEntry siteTables [] 20) = fieldFrame 20 .query [1] ∧
      pollFrame s (pollEntry siteTables [] 90) = fieldFrame 90 .drive [50, 4] ∧
      pollFrame handed (pollEntry siteTables [] 90) = fieldFrame 90 .query [4] := by decide

/-- Two pads of zone 2 with wet level 300 and a spill hysteresis of 50 su, as in 4 "a spill, its latch ...". -/
def pads (f14 f15 : Nat) (h15 : Health) : State :=
  let pad : Binding := { detector with kind := .leak, wetLevel := 300 }
  let w : Tables := { siteTables with
    bindings := (siteTables.bindings.set 14 pad).set 15 { pad with node := 36 }
    zones := siteTables.zones.set 2 { siteTables.zones[2] with spillHysteresis := 50 } }
  setChannel 15 { ChannelRecord.restarted h15 with filtered := f15 } (good 14 f14 { running with tables := w })

/-- The same, evaluations S1 to S4; R69: wet at the wet level itself, not dry at the dry threshold of 250, and an unhealthy pad
takes no part. -/
theorem test_spill_inputs :
    spillInputs (pads 120 90 .good) 2 = { bound := 2, healthy := 2, wet := false, allDry := true } ∧
      spillInputs (pads 340 100 .good) 2 = { bound := 2, healthy := 2, wet := true, allDry := false } ∧
      spillInputs (pads 280 100 .good) 2 = { bound := 2, healthy := 2, wet := false, allDry := false } ∧
      spillInputs (pads 230 95 .held) 2 = { bound := 2, healthy := 2, wet := false, allDry := true } ∧
      (spillInputs (pads 300 250 .good) 2).wet = true ∧ (spillInputs (pads 249 250 .good) 2).allDry = false ∧
      spillInputs (pads 249 900 .stale) 2 = { bound := 2, healthy := 1, wet := false, allDry := true } := by decide

/-- Group 3 at a commanded stage, fan 6 in a state, its default speed table 25, 50, 75, 100. -/
def staged (commanded : Nat) (st : FanState) (setpoint : Nat) : State :=
  setGroup 3 { running.groups[3] with commanded := commanded }
    (setFan 6 { FanRecord.cleared with state := st, setpoint := setpoint } running)

/-- R109 (a) and (d), R110: at stage 3 an OFF fan starts at 75 % with its group's proof timeout of 10, a RUNNING one takes 75 %
as its setpoint, and at stage 0 it goes OFF. -/
theorem test_starts_and_stops :
    let s := startsAndStops 3 (staged 3 .off 0)
    (s.fans[6].state, s.fans[6].timer, s.fans[6].setpoint) = (.starting, 10, 75) ∧
      (writeSetpoints 3 (staged 3 .running 25)).fans[6].setpoint = 75 ∧
      (let t := (startsAndStops 3 (staged 0 .running 25)).fans[6]
       (t.state, t.setpoint) = (.off, 0)) := by decide

/-- R81, R82: zone 2 in FAULT, in group 3's mask only; the default map's entries BASE 0, FAULT 4, WARMUP 1. -/
theorem test_demand_and_floor :
    let s := setZone 2 (ZoneRecord.cleared .fault) running
    (demandOf s 3, floorOf s 3, demandOf s 2, floorOf s 2) = (4, 4, 0, 0) ∧
      (demandOf { running with mode := .warmup } 2, demandOf { s with mode := .standby } 3) = (1, 0) := by decide

/-- R160, R132: a batch of one applied and one rejected record; nodes 20 and 36 keep their records, node 40 enters as new, and
APPLIED gives both numbers. -/
theorem test_application :
    let new : Binding := { detector with node := 40, zone := 3 }
    let before := running.pollList.map fun e => { e with state := NodeState.offline, miss := 2 }
    let s := applyPoint { running with
      pollList := before, changes := [.binding 9 new, .device DeviceEntry.default] }
    (s.pollList.map fun e => (e.address, e.state, e.miss)) =
        [(20, .offline, 2), (36, .offline, 2), (40, .unknown, 0), (90, .offline, 2)] ∧
      (s.events.map fun e => (e.kind, e.detail)) = [(.started, 0), (.tableReject, 0x0600), (.applied, 0x0101)] ∧
      s.changes = [] := by decide

/-! ## Commands, one step each -/

/-- R188: the relays and a SAVE in flight. -/
theorem test_resetAsserted :
    let s := after .resetAsserted { running with
      outputs := { chargePermit := true, ventProven := true, beacon := true, healthy := true }
      save := some { snapshot := Tables.default, phase := .erased } }
    s.outputs = Outputs.off ∧ s.save = none ∧ after .cycleTick s = s := by decide

/-- R188, R190: an invalid store gives the reset state. -/
theorem test_deviceReset : after (.deviceReset 1 false) State.reset = State.reset := by decide

/-- R190, R182: the image is 1021 bytes and decodes to the tables; a store with its check value loads it. -/
theorem test_deviceReset_loads :
    (encodeTables siteTables).length = 1021 ∧ decodeTables (encodeTables siteTables) = some siteTables ∧
      ∀ image, loadStore { image := image, check := some (crc image) } = decodeTables image :=
  ⟨by decide, by decide, loadStore_checked⟩

/-- R141, R133: the cycle starts at node 20 with its point mask. -/
theorem test_cycleTick :
    let s := after .cycleTick running
    s.segment = .polling ∧
      s.transaction = some { owner := .poll 20, frame := fieldFrame 20 .query [1], left := 2, phase := .sending } := by decide

/-- R145, 8 "contention and recovery", tick 1. -/
theorem test_cycleTick_faulted :
    let s := after .cycleTick { running with segment := .faulted, countdown := 2, contention := 3 }
    (s.segment, s.countdown, s.contention, s.cycleCount) = (.faulted, 1, 3, 1) := by decide

/-- R144. -/
theorem test_deferredTick :
    let s := after .deferredTick { transit .query .sending with deferredTick := true, transaction := none }
    (s.segment, s.deferredTick) = (.polling, false) := by decide

/-- R138: a clean transmission sets the contention count to 0. -/
theorem test_frameTransmitted :
    let s := after .frameTransmitted { attempt 36 1 .sending with contention := 2 }
    s.contention = 0 ∧ s.transaction.map (·.phase) = some .awaiting := by decide

/-- R139, 8 "contention and recovery": node 36's third attempt. -/
theorem test_contentionMismatch :
    let s := after .contentionMismatch { attempt 36 0 .sending with contention := 2 }
    (s.segment, s.countdown, s.contention, s.cycleCount) = (.faulted, 2, 3, 1) ∧
      (s.events.map fun e => (e.kind, e.subject)) = [(.started, 0), (.nodeState, 36), (.segmentState, 0)] ∧
      (s.pollList.map fun e => (e.address, e.state, e.errors)) = [(20, .unknown, 0), (36, .offline, 0), (90, .unknown, 0)] := by
  decide

/-- R138: the first contention leaves attempts. -/
theorem test_contentionMismatch_first :
    let s := after .contentionMismatch (attempt 36 2 .sending)
    (s.segment, s.contention) = (.polling, 1) ∧ s.transaction.map (fun t => (t.left, t.phase)) = some (1, .gap) := by decide

/-- R135. -/
theorem test_openingMarkReceived :
    (after .openingMarkReceived (attempt 36 1 .awaiting)).transaction.map (·.phase) = some .receiving := by decide

/-- R136, 2: raw code 980 at node 20 point 0, the channel GOOD at 180; then node 36 is polled. -/
theorem test_fieldReceptionEnd :
    let s := after (.fieldReceptionEnd [0, 20, 0x11, 4, 0, 0, 3, 0xD4, 0xCF, 0x0B]) (good 14 180 (attempt 20 2 .receiving))
    (s.channels[14].filtered, s.channels[14].raw, s.channels[14].mark) = (195, 980, .usable) ∧
      s.transaction.map (·.owner) = some (.poll 36) ∧ (s.pollList.map (·.state)) = [.online, .unknown, .unknown] := by decide

/-- R29, R177: a CONFIG that completes REPLY marks node 36's GOOD channel for settling; the allowance of 2 is reached. -/
theorem test_fieldReceptionEnd_transit :
    let s := after (.fieldReceptionEnd [0, 36, 0x11, 1, 0, 0xAB, 0xD1]) (good 15 180 (transit .config .receiving))
    s.channels[15].health = .settling ∧ s.segment = .waiting ∧
      (s.transits.map fun e => (e.state, e.reading)) = [(.done .reply, [0])] := by decide

/-- R129, R137: the error is counted and an attempt is left. -/
theorem test_framingError :
    let s := after .framingError (attempt 36 2 .receiving)
    (s.pollList.map (·.errors)) = [0, 1, 0] ∧ s.transaction.map (fun t => (t.left, t.phase)) = some (1, .gap) := by decide

/-- R137, R133: node 36 missed, then node 90's DRIVE with its fan's setpoint and mask. -/
theorem test_replyTimeout :
    let s := after .replyTimeout (setFan 6 { FanRecord.cleared with state := .running, setpoint := 50 } (attempt 36 0 .awaiting))
    (s.pollList.map fun e => (e.state, e.miss, e.errors)) = [(.unknown, 0, 0), (.offline, 1, 1), (.unknown, 0, 0)] ∧
      s.transaction.map (·.frame) = some (fieldFrame 90 .drive [50, 4]) := by decide

/-- R135: the same frame again. -/
theorem test_nextAttempt : after .nextAttempt (attempt 36 1 .gap) = attempt 36 1 .sending := by decide

/-- 5 "two overrides on one group", G8. -/
theorem test_overrideExpired :
    let g8 : GroupRecord := { GroupRecord.cleared with
      demand := 2, effective := 3, commanded := 3, stack := [{ kind := .force, stage := 3, expiry := 1, tag := 0x0101 }] }
    let w : Tables := { siteTables with groups := siteTables.groups.set 2 { GroupEntry.default with runOn := 0 } }
    let s := after .overrideExpired
      { running with tables := w, groups := running.groups.set 2 g8, work := [.countExpiry 2, .stageUpdate 2] }
    (s.groups[2].stack, s.groups[2].effective, s.groups[2].commanded) = ([], 2, 2) ∧ s.work = [] ∧
      (s.events.getLast?.map fun e => (e.kind, e.subject, e.detail)) = some (.overrideExpired, 2, 0x0101) := by decide

/-- 6 "a duty fan fails and is reset", the NO_PROOF case: the run set of a one-fan group empties. -/
theorem test_proofTimeout :
    let s := after .proofTimeout { setFan 6 { FanRecord.cleared with state := .starting, timer := 1, setpoint := 50 } running
      with work := [.supervise 3, .setpoints 3] }
    (s.fans[6].state, s.fans[6].reason, s.fans[6].setpoint) = (.failed, .noProof, 0) ∧
      (s.groups[3].runSet, s.groups[3].condition) = ([], .unavailable) ∧
      (s.events.map (·.kind)) = [.started, .fanState, .groupCondition] := by decide

/-- R158: at a hold limit of 120 two records are discarded. -/
theorem test_holdExpired :
    let s := after .holdExpired { running with
      hold := true, holdCount := 119, work := [.countHold], changes := [.device DeviceEntry.default, .device DeviceEntry.default] }
    (s.hold, s.holdCount, s.changes, s.work) = (false, 0, [], []) ∧
      (s.events.getLast?.map fun e => (e.kind, e.detail)) = some (.holdExpired, 2) := by decide

/-- R186, R121: RUN, and CHARGE_PERMIT energizes. -/
theorem test_warmupCountEnd :
    let s := after .warmupCountEnd { running with mode := .warmup, warmupLeft := 1, work := [.countWarmup] }
    (s.mode, s.warmupLeft, s.outputs.chargePermit, s.outputs.healthy) = (.run, 0, true, false) ∧
      (s.events.getLast?.map fun e => (e.kind, e.detail)) = some (.modeChange, 0x0201) := by decide

/-- 8 "contention and recovery", tick 2. -/
theorem test_faultedCountdownEnd :
    let s := after .faultedCountdownEnd
      { running with segment := .faulted, countdown := 1, contention := 3, storeValid := true, work := [.countFaulted] }
    (s.segment, s.countdown, s.contention, s.outputs.healthy) = (.waiting, 0, 0, true) := by decide

/-- R146: a release acted on. -/
def releasable : State :=
  { running with tables := { siteTables with device := { DeviceEntry.default with releaseEnable := true } } }

theorem test_serviceReleaseAsserted :
    let s := after .serviceReleaseAsserted releasable
    (s.segment, s.releaseLine) = (.released, true) ∧
      (s.events.map (·.kind)) = [.started, .segmentState, .serviceRelease] ∧
      (after .serviceReleaseAsserted running).segment = .waiting := by decide

/-- R147: the segment stays RELEASED until the next tick. -/
theorem test_serviceReleaseDeasserted :
    let s := after .serviceReleaseDeasserted { releasable with segment := .released, releaseLine := true }
    (s.segment, s.releaseLine) = (.released, false) ∧ (s.events.map (·.kind)) = [.started, .serviceRelease] ∧
      (after .cycleTick s).segment = .polling := by decide

/-- A SAVE whose image is written. -/
def saving : State :=
  let image := encodeTables siteTables
  { running with store := { image := image, check := some (crc image) }, save := some { snapshot := siteTables, phase := .written } }

/-- R191: the read-back agrees. -/
theorem test_saveCompletion :
    (after (.saveCompletion []) saving).storeValid = true ∧ (after (.saveCompletion []) saving).save = none := by
  have eq : after (.saveCompletion []) saving = completeSave { snapshot := siteTables, phase := .written } saving.store saving :=
    rfl
  have ok : readBackAgrees siteTables saving.store = true := readBackAgrees_written siteTables
  rw [eq]; unfold completeSave; simp [ok]

/-- R191: one cell differs. -/
theorem test_saveCompletion_fails :
    let s := after (.saveCompletion [(1020, 0xFF)]) { saving with storeValid := true }
    (s.storeValid, s.save, s.outputs.healthy) = (false, none, false) ∧ (s.events.map (·.kind)) = [.started, .saveFailed] := by
  decide

/-- R191: the check value goes first, the image and its CRC come after. -/
theorem test_checkValueErased :
    let s := after .checkValueErased { saving with save := some { snapshot := siteTables, phase := .accepted } }
    s.store.check = none ∧ s.save.map (·.phase) = some .erased := by decide

theorem test_checkValueWritten :
    let s := after .checkValueWritten { running with save := some { snapshot := Tables.default, phase := .erased } }
    s.store.image.take 13 = [0, 1, 0, 0, 0, 0, 1, 0, 0, 1, 0xF4, 0, 1] ∧ s.store.check.isSome = true := by decide

/-- R168: a STATUS to station 2 is dropped, as is one with a bit of its CRC changed, and the broadcast address 127 is no
station's. -/
theorem test_trunkFrameDropped :
    after .trunkFrameDropped running = running ∧ after (.status 2 [7, 0x40, 0, 0xE1, 0xF4]) running = running ∧
      hears running [2, 7, 0x40, 0, 0xE1, 0xF4] = none ∧
      after (.status 1 [7, 0x40, 0, 0x7A, 0x29]) running = running ∧
      hears running [127, 7, 0x40, 0, 0x9A, 0x07] = none ∧
      hears { running with trunkAddress := 127 } [127, 7, 0x40, 0, 0x9A, 0x07] = none ∧
      hears running [1, 7, 0x40, 0, 0x7A, 0x28] = some { dst := 1, src := 7, kind := 0x40, payload := [] } := by
  decide

/-- R170: code 0x47 is in no row; RUN with one event waiting gives attention 0x42. -/
theorem test_unknownRequest :
    (after (.unknownRequest 1 7 [0x47, 0, 0xE3, 0xBF]) running).trunkPort = replied 0x47 [8, 0x42] := by decide

/-- R169, R189. -/
theorem test_replySent :
    (after (.replySent 5 true) { running with trunkPort := replied 0x40 [] }).trunkPort = .listening ∧
      (after (.replySent 5 true) { running with trunkPort := replied 0x40 [] }).trunkAddress = 1 ∧
      (after (.replySent 5 true)
        { running with trunkPort := .answering { dst := 7, src := 1, kind := 0x5A, payload := [] } true }).trunkAddress = 5 := by
  decide

/-- R183: 57 data bytes after result and attention; the segment is WAITING, code 1. -/
theorem test_status :
    ∃ data, (after (.status 1 [7, 0x40, 0, 0x7A, 0x28]) running).trunkPort = replied 0x40 (0 :: 0x42 :: data) ∧ data.length = 57 ∧
      data.take 4 = [2, 0, 1, 0] := ⟨statusData running, by decide⟩

/-- R38: HYDROGEN in zone 2, GOOD, 180 su. -/
theorem test_readChannel :
    (after (.readChannel 1 [7, 0x41, 1, 14, 0x12, 0x12]) (good 14 180 running)).trunkPort =
      replied 0x41 [0, 0x42, 0, 2, 3, 0, 180, 0, 180, 0, 0, 0, 0, 0, 0, 0] ∧
      (after (.readChannel 1 [7, 0x41, 1, 64, 0xBB, 0x18]) running).trunkPort = replied 0x41 [9, 0x42] := by decide

/-- R67: enabled and NORMAL, flags byte with the enable. -/
theorem test_readZone :
    (after (.readZone 1 [7, 0x42, 1, 2, 0x8A, 0xCE]) running).trunkPort =
      replied 0x42 ([0, 0x42, 1, 1, 0, 0, 0, 0, 0, 0, 0, 0x20, 0, 0, 0, 0] ++ List.replicate 16 0) := by decide

/-- R102: run set 6, FULL, no context. -/
theorem test_readGroup :
    (after (.readGroup 1 [7, 0x43, 1, 3, 0xAD, 0xDF]) running).trunkPort =
      replied 0x43 ([0, 0x42, 0, 0, 0, 0, 0, 0, 0, 1, 3, 1, 6, 0xFF, 0xFF, 0xFF, 0] ++ List.replicate 24 0) := by decide

/-- R118: fan 6 with slot 50 and proof level 150, OFF, in the run set, its channel UNSEEN. -/
theorem test_readFan :
    (after (.readFan 1 [7, 0x44, 1, 6, 0x78, 0xEA]) running).trunkPort =
      replied 0x44 [0, 0x42, 1, 90, 3, 50, 0, 150, 0, 0, 0, 0, 0, 1, 1, 0, 0] := by decide

/-- R151: node 90 drives fan 6 and has point 2; node 91 is not listed. -/
theorem test_readNode :
    (after (.readNode 1 [7, 0x45, 1, 90, 0xD4, 0xA3]) running).trunkPort = replied 0x45 [0, 0x42, 1, 1, 4, 6, 0, 0, 0] ∧
      (after (.readNode 1 [7, 0x45, 1, 91, 0xC4, 0x82]) running).trunkPort = replied 0x45 [0, 0x42, 0] := by decide

/-- R5, R182: slot 15 holds (36, 0), bucket 4, position 1: zero offset 96, span 70, shift 2, wet level 500. -/
theorem test_readTable :
    (after (.readTable 1 [7, 0x46, 3, 1, 15, 1, 0xF1, 0xF0]) running).trunkPort =
      replied 0x46 [0, 0x42, 1, 15, 1, 1, 36, 0, 2, 0, 96, 0, 70, 2, 1, 0xF4, 4, 1] ∧
      (after (.readTable 1 [7, 0x46, 3, 1, 60, 5, 0xE1, 0xB2]) running).trunkPort = replied 0x46 [9, 0x42] := by decide

/-- R156: one FANS entry appended; an order byte's field is read from its half. -/
theorem test_writeTable :
    let s := after (.writeTable 1 [7, 0x50, 9, 4, 5, 1, 1, 77, 33, 255, 0, 150, 0x25, 0xA6]) running
    s.changes = [.fan 5 { enabled := true, driveNode := 77, group := 1, order := 2, airflowSlot := none, proofLevel := 150 }] ∧
      s.trunkPort = replied 0x50 [0, 0x4A, 1] := by decide

/-- R156: an index of 8 is out of range after one entry taken; R154: the DEVICE entry only in STANDBY. -/
theorem test_writeTable_refused :
    (after (.writeTable 1 [7, 0x50, 15, 4, 7, 2, 1, 77, 33, 255, 0, 150, 1, 77, 33, 255, 0, 150, 0x70, 0x60])
      running).trunkPort = replied 0x50 [9, 0x4A, 1, 1] ∧
      (after (.writeTable 1 [7, 0x50, 12, 5, 0, 1, 4, 20, 2, 2, 8, 0, 0, 120, 0, 0xFE, 0xAA]) running).trunkPort =
        replied 0x50 [5, 0x42] := by
  decide

/-- R158. -/
theorem test_hold :
    let s := after (.hold 1 [7, 0x51, 1, 1, 0xA0, 0x9E]) { running with holdCount := 5 }
    (s.hold, s.holdCount) = (true, 0) ∧ s.trunkPort = replied 0x51 [0, 0x52] := by decide

/-- R157. -/
theorem test_discard :
    let s := after (.discard 1 [7, 0x52, 0, 0x1F, 0x39]) { running with changes := [.device DeviceEntry.default], hold := true }
    s.changes = [] ∧ s.trunkPort = replied 0x52 [0, 0x52, 1] := by decide

/-- R191: BUSY while one is in flight. -/
theorem test_save :
    (after (.save 1 [7, 0x53, 0, 0x2C, 0x08]) running).save = some { snapshot := siteTables, phase := .accepted } ∧
      (after (.save 1 [7, 0x53, 0, 0x2C, 0x08]) saving).trunkPort = replied 0x53 [2, 0x42] := by decide

/-- R185: WARMUP with the count of 8, zone 2 NORMAL, the demand WARMUP's entry of 1. -/
theorem test_run :
    let s := after (.run 1 [7, 0x58, 0, 0xF0, 0xF2]) site
    (s.mode, s.warmupLeft, s.segment, s.timerOn) = (.warmup, 8, .waiting, true) ∧ s.zones[2].gas = .normal ∧
      (s.groups[3].demand, s.groups[3].commanded) = (1, 0) ∧ s.trunkPort = replied 0x58 [0, 0x22] := by decide

/-- R187: the transit entry cancelled, the channel restarted. -/
theorem test_standby :
    let s := after (.standby 1 [7, 0x59, 0, 0xC3, 0xC3]) (good 14 180 (transit .query .awaiting))
    (s.mode, s.segment, s.transaction) = (.standby, .idle, none) ∧ s.channels[14].health = .unseen ∧
      (s.transits.map (·.state)) = [.done .cancelled] := by decide

/-- R189: the tables stay, one STARTED event, the reply shows STANDBY. -/
theorem test_restart :
    let s := after (.restart 1 [7, 0x5A, 0, 0x96, 0x90]) { running with hold := true, cycleCount := 4711 }
    (s.tables, s.hold, s.cycleCount) = (siteTables, false, 0) ∧ (s.events.map (·.kind)) = [.started] ∧
      s.trunkPort = .answering { dst := 7, src := 1, kind := 0x5A, payload := [0, 0x02] } true := by decide

/-- R53: an unacknowledged alarm silenced; 0xFF names all zones. -/
theorem test_acknowledge :
    let s : State := { running with
      zones := running.zones.set 2 (ZoneRecord.cleared .alarm)
      outputs := { chargePermit := false, ventProven := false, beacon := true, healthy := true } }
    (after (.acknowledge 1 [7, 0x60, 1, 2, 0x62, 0x68]) s).zones[2].alarmAck = true ∧
      (after (.acknowledge 1 [7, 0x60, 1, 255, 0x5C, 0xDA]) s).outputs.beacon = false ∧
      (after (.acknowledge 1 [7, 0x60, 1, 16, 0x50, 0x1B]) s).trunkPort = replied 0x60 [9, 0x43] := by decide

/-- 5 "hand-over and take-back": MANUAL on a floor of 0 hands fan 6 over. -/
theorem test_pushOverride :
    let s := after (.pushOverride 1 [7, 0x61, 7, 3, 2, 0, 0, 100, 3, 3, 0xB5, 0xFB]) running
    (s.groups[3].handOver, s.groups[3].effective) = (true, 0) ∧ s.fans[6].state = .manual ∧
      s.groups[3].stack = [{ kind := .manual, stage := 0, expiry := 100, tag := 0x0303 }] ∧
      s.trunkPort = replied 0x61 [0, 0x42, 1] := by decide

/-- R95, R91: the pop takes the fan back; at commanded stage 3 it starts. -/
theorem test_popOverride :
    let g : GroupRecord := { running.groups[3] with
      commanded := 3, handOver := true, stack := [{ kind := .manual, stage := 0, expiry := 95, tag := 0x0303 }] }
    let s := after (.popOverride 1 [7, 0x62, 1, 3, 0x1C, 0x29])
      (setFan 6 { FanRecord.cleared with state := .manual } (setGroup 3 g running))
    (s.groups[3].handOver, s.groups[3].stack) = (false, []) ∧ (s.fans[6].state, s.fans[6].timer) = (.starting, 10) ∧
      s.trunkPort = replied 0x62 [0, 0x42, 2, 0, 0, 95, 3, 3] := by decide

/-- 6: FAN-RESET at commanded stage 2 starts the fan with setpoint 50; R107: the group is FULL again. -/
theorem test_fanReset :
    let g : GroupRecord := { running.groups[3] with commanded := 2, runSet := [], condition := .unavailable }
    let s := after (.fanReset 1 [7, 0x63, 1, 6, 0x7B, 0xBC])
      (setFan 6 { FanRecord.cleared with state := .failed, reason := .lostFlow } (setGroup 3 g running))
    (s.fans[6].state, s.fans[6].setpoint, s.fans[6].reason) = (.starting, 50, .none) ∧
      (s.groups[3].runSet, s.groups[3].condition) = ([6], .full) ∧
      (s.events.map (·.kind)) = [.started, .fanState, .fanState, .groupCondition] := by decide

/-- R193: the one STARTED event, with the lost count. -/
theorem test_fetchEvents :
    let s := after (.fetchEvents 1 [7, 0x68, 0, 0xF5, 0x67]) { running with lost := 3 }
    (s.events, s.lost) = ([], 0) ∧ s.trunkPort = replied 0x68 [0, 0x40, 1, 3, 1, 0, 0, 0, 0, 0, 0, 0, 1] := by decide

/-- 10 "transits around a hand-over": a DRIVE denied, a QUERY accepted with sequence 17. -/
theorem test_pass :
    let s : State := { running with transitCount := 17 }
    (after (.pass 1 [7, 0x70, 4, 90, 18, 60, 4, 0x93, 0xDC]) s).trunkPort = replied 0x70 [7, 0x42] ∧
      (after (.pass 1 [7, 0x70, 3, 55, 16, 1, 0x54, 0xD3]) s).trunkPort = replied 0x70 [0, 0x42, 17, 1] ∧
      (after (.pass 1 [7, 0x70, 3, 55, 16, 1, 0x54, 0xD3]) s).transitCount = 18 := by decide

/-- The same: entry 18 to node 36, CONFIG, DENIED; an oldest entry SENT is NOT_READY. -/
theorem test_collect :
    let s := after (.collect 1 [7, 0x71, 0, 0x4C, 0x8C])
      { running with transits := [{ sentEntry .config with state := .done .denied }] }
    s.transits = [] ∧ s.trunkPort = replied 0x71 [0, 0x42, 18, 36, 0x13, 3] ∧
      (after (.collect 1 [7, 0x71, 0, 0x4C, 0x8C]) (transit .query .awaiting)).trunkPort = replied 0x71 [6, 0x42] := by decide

/-- The step takes the front command and leaves the rest waiting; with none it idles (log 3). -/
theorem test_step :
    (∃ t, step { site with pending := [.hold 1 [7, 0x51, 1, 1, 0xA0, 0x9E], .trunkFrameDropped] } = .next t ∧ t.hold = true ∧
      t.pending = [.trunkFrameDropped]) ∧ step site = .next site :=
  ⟨⟨_, rfl, by decide⟩, rfl⟩

/-- R92, R95, R114: a MANUAL context of the last group step expires at stage 0: the hand-over ends and the fan goes OFF. -/
theorem test_override_ends_hand_over :
    let c : Context := { kind := .manual, stage := 0, expiry := 1, tag := 0 }
    let s := setFan 6 { FanRecord.cleared with state := .manual }
      (setGroup 3 { running.groups[3] with handOver := true, stack := [c] } { running with work := [.countExpiry 3] })
    let t := after .overrideExpired s
    t.groups[3].handOver = false ∧ t.groups[3].stack = [] ∧ t.fans[6].state = .off := by decide

/-- R145, R142: a tick of a FAULTED segment: the countdown falls, and the zone whose one detector is STALE is evaluated. -/
theorem test_empty_cycle_evaluates :
    let s := after .cycleTick (setChannel 14 (ChannelRecord.restarted .stale)
      { running with segment := .faulted, countdown := 2, tables := { siteTables with
        bindings := siteTables.bindings.set 15 Binding.default } })
    (s.countdown, s.segment, s.zones[2].gas) = (1, .faulted, .fault) := by decide

/-- R146, R139: a release during a transit transaction with a tick held runs an empty cycle of the RELEASED state; a third
contention in one leaves the other entry WAITING. -/
theorem test_transit_ends_early :
    (let s := after .serviceReleaseAsserted
      { transit .query .sending with tables := releasable.tables, deferredTick := true, cycleCount := 7 }
     (s.segment, s.cycleCount, s.deferredTick) = (.released, 8, false) ∧
      s.transits.map (·.state) = [.done .abandoned]) ∧
    (let s := after .contentionMismatch
      { transit .query .sending with contention := 2, transits := [sentEntry .query, waitingEntry 36 .query] }
     (s.segment, s.countdown, s.contention, s.outputs.healthy) = (.faulted, 2, 3, false) ∧
      s.transits.map (·.state) = [.done .abandoned, .waiting]) := by decide

/-! ## Well-formedness -/

/-- Receptions: cut short, too long, and malformed ones that go on; cells and codes that do not exist. -/
theorem test_wellFormed_events :
    (Instr.fieldReceptionEnd [0, 20, 0x11, 1, 0, 0]).wellFormed = false ∧
      (Instr.fieldReceptionEnd [0, 20, 0x11, 1, 0, 0, 0, 0]).wellFormed = false ∧
      (Instr.fieldReceptionEnd [0, 20, 0x11, 61, 0]).wellFormed = false ∧
      (Instr.fieldReceptionEnd [0, 20, 0x11]).wellFormed = false ∧
      (Instr.fieldReceptionEnd [0, 20, 0x11, 1, 0, 0, 0]).wellFormed = true ∧
      (Instr.saveCompletion [(1023, 0)]).wellFormed = false ∧ (Instr.saveCompletion [(1022, 0)]).wellFormed = true ∧
      (Instr.unknownRequest 1 7 [0x40, 0, 0x7A, 0x28]).wellFormed = false ∧
      (Instr.unknownRequest 1 128 [0x47, 0, 0x5D, 0x75]).wellFormed = false ∧
      (Instr.unknownRequest 1 127 [0x47, 0, 0x92, 0x16]).wellFormed = true := by decide

/-- Every request row refuses a payload of 121 bytes, a source above 127, another row's code, a bad CRC and a frame cut
short, and takes 8 bytes from source 127. -/
theorem test_wellFormed_requests :
    let frame (code src : Byte) (n : Nat) : List Byte :=
      (markedChars { dst := 1, src := src, kind := code, payload := List.replicate n 0 }).tail
    ([(0x40, Instr.status), (0x41, .readChannel), (0x42, .readZone), (0x43, .readGroup), (0x44, .readFan), (0x45, .readNode),
      (0x46, .readTable), (0x50, .writeTable), (0x51, .hold), (0x52, .discard), (0x53, .save), (0x58, .run),
      (0x59, .standby), (0x5A, .restart), (0x60, .acknowledge), (0x61, .pushOverride), (0x62, .popOverride),
      (0x63, .fanReset), (0x68, .fetchEvents), (0x70, .pass), (0x71, .collect)].all fun (code, request) =>
        !(request 1 (frame code 7 121)).wellFormed && !(request 1 (frame code 128 0)).wellFormed &&
        !(request 1 (frame 0x47 7 0)).wellFormed && !(request 1 [7, code, 0, 0, 0]).wellFormed &&
        !(request 1 [7, code, 0, 0]).wellFormed && (request 1 (frame code 127 8)).wellFormed) = true := by decide

/-! ## The statements' hypotheses are met -/

theorem test_meets_listening : running.Listening ∧ site.Listening ∧ State.reset.Listening := by
  unfold State.Listening; decide

theorem test_meets_StepRunsTheFrontCommand :
    ({ site with pending := [.status 1 [7, 0x40, 0, 0x7A, 0x28]] }).pending = .status 1 [7, 0x40, 0, 0x7A, 0x28] :: [] := rfl

theorem test_meets_ResetAssertedHoldsThePart :
    ({ running with inReset := true }).inReset = true ∧ silencedByReset .cycleTick = true := ⟨rfl, rfl⟩

theorem test_meets_DeviceResetWithAFailingStore :
    State.reset.store.check = none ∧
      ∃ c, ({ image := [], check := some 0 } : Store).check = some c ∧ c ≠ crc [] := by
  exact ⟨rfl, 0, rfl, by decide⟩

theorem test_meets_DeviceResetLoadsTheStoredTables :
    siteTables.InRange ∧ saving.store.image = encodeTables siteTables ∧ saving.store.check = some (crc saving.store.image) :=
  ⟨by unfold Tables.InRange; decide, rfl, rfl⟩

/-- Entries with fields at the ends of their ranges. -/
theorem test_meets_EntryLayoutsDecodeToTheirEntries :
    ({ detector with node := 126, zeroOffset := -512, span := 4095, shift := 4, wetLevel := 1000 } : Binding).inRange = true ∧
      ({ ZoneEntry.default with
        hysteresis := 200, vote := 4, rateWindow := 7, rateThreshold := 500, staleLimit := 15, settleCount := 8,
        spillHysteresis := 200 } : ZoneEntry).inRange = true ∧
      ({ GroupEntry.default with speed := #v[0, 100, 100, 100], runCount := 4, runOn := 600, proofTimeout := 60 } :
        GroupEntry).inRange = true ∧
      ({ FanEntry.default with driveNode := 126, airflowSlot := some 63, proofLevel := 1000 } : FanEntry).inRange = true ∧
      ({ DeviceEntry.default with surveyPeriod := 4000, replyTimeout := 50, retries := 3, holdLimit := 600 } :
        DeviceEntry).inRange = true := by decide

/-- Payloads at the limits of 60 and 120, lengths above them, and a CRC other than the frame's. -/
theorem test_meets_FieldFramesAreReceivedAsSent :
    (List.replicate 60 (1 : Byte)).length ≤ 60 ∧ (List.replicate 120 (1 : Byte)).length ≤ 120 ∧
      joinBytes 0xDC 0x62 ≠ crc (frameBody (fieldFrame 20 .query [3])) ∧ 60 < (61 : Byte).toNat ∧
      120 < (121 : Byte).toNat := by
  decide

/-- A reception that is malformed, one with a CRC error, and one from another node. -/
theorem test_receive_failures :
    receive 60 [0, 36, 0x11, 61] = .malformed ∧ receive 60 [0, 36, 0x11, 1, 0, 0xAB, 0xD2] = .crcError ∧
      receive 60 [0, 36, 0x11, 1, 0, 0xAB, 0xD1] = .frame { dst := 0, src := 36, kind := 0x11, payload := [0] } ∧
      validReply 20 { dst := 0, src := 36, kind := 0x11, payload := [0] } = false ∧
      validReply 36 { dst := 0, src := 36, kind := 0x11, payload := [0] } = true := by decide

theorem test_meets_AttemptsPassTheirPhasesAndAreRepeated (p : Phase) :
    (attempt 36 1 p).inReset = false ∧ (attempt 36 1 p).transaction =
        some { owner := .poll 36, frame := fieldFrame 36 .query [1], left := 0 + 1, phase := p } ∧
      (attempt 36 1 p).contention + 1 < 3 :=
  ⟨rfl, rfl, (by decide : 0 + 1 < 3)⟩

theorem test_meets_LastFailedAttemptMissesTheNode :
    let s := attempt 36 0 .awaiting
    s.inReset = false ∧ (∃ before e next after, s.pollList = before ++ e :: next :: after ∧ e.address = 36 ∧
      ∃ t, s.transaction = some t ∧ t.owner = .poll e.address ∧ t.left = 0 ∧ t.phase = .awaiting) ∧
      (s.pollList.map (·.address)).Pairwise (· < ·) :=
  ⟨by decide,
    ⟨[pollEntry siteTables [] 20], pollEntry siteTables [] 36, pollEntry siteTables [] 90, [], by decide, by decide,
      _, rfl, by decide, rfl, rfl⟩, by decide⟩

/-- The last attempt by the other ways it fails: a contention that leaves the count at 1 and at 2, and receptions that are malformed,
of a bad CRC, and from another node. -/
theorem test_meets_LastFailedAttemptMissesTheNode_ways :
    (attempt 36 0 .sending).contention + 1 < 3 ∧ ({ attempt 36 0 .sending with contention := 1 }).contention + 1 < 3 ∧
      receive 60 [0, 36, 0x11, 61] = .malformed ∧ receive 60 [0, 36, 0x11, 1, 0, 0xAB, 0xD2] = .crcError ∧
      (∃ f, receive 60 [0, 20, 0x11, 4, 0, 0, 3, 0xD4, 0xCF, 0x0B] = .frame f ∧ validReply 36 f = false) ∧
      (attempt 36 0 .receiving).transaction.map (fun t => (t.phase, t.left)) = some (.receiving, 0) :=
  ⟨by decide, by decide, by decide, by decide,
    ⟨{ dst := 0, src := 20, kind := 0x11, payload := [0, 0, 3, 0xD4] }, by decide, by decide⟩, by decide⟩

/-- The walk's last entry. -/
theorem test_meets_LastFailedAttemptMissesTheNode_end :
    let s := attempt 90 0 .awaiting
    s.pollList = [pollEntry siteTables [] 20, pollEntry siteTables [] 36] ++ [pollEntry siteTables [] 90] ∧
      (pollEntry siteTables [] 90).address = 90 ∧ ∃ t, s.transaction = some t ∧ t.owner = .poll 90 ∧ t.left = 0 :=
  ⟨by decide, by decide, _, rfl, rfl, rfl⟩

/-- A READING of two points, the first with its FAULT flag on channel 14 and the second bound by no slot. -/
theorem test_meets_ReadingConditionsItsChannel :
    let s := attempt 20 2 .receiving
    let f : Frame := { dst := 0, src := 20, kind := 0x11, payload := [0, 0x20, 3, 0xD4, 1, 2, 8] }
    (s.inReset = false ∧ s.transaction.map (·.owner) = some (.poll 20) ∧ s.transaction.map (·.phase) = some .receiving ∧
      receive 60 [0, 20, 0x11, 7, 0, 0x20, 3, 0xD4, 1, 2, 8, 0xFB, 0x1B] = .frame f ∧ validReply 20 f = true ∧
      f.payload = 0 :: [((0x20, 3, 0xD4) : Byte × Byte × Byte), (1, 2, 8)].flatMap (fun p => [p.1, p.2.1, p.2.2]) ∧
      s.tables.bindings[14].valid = true ∧ s.tables.bindings[14].node = 20 ∧ s.tables.bindings[14].point = 0 ∧
      (∀ i : Fin 64, s.tables.bindings[i].node = 20 → s.tables.bindings[i].point ≠ 1) ∧
      (s.pollList.find? fun e => decide (20 < e.address)) = some (pollEntry siteTables [] 36)) ∧ KeysLaw s :=
  ⟨by decide, by unfold KeysLaw; decide⟩

/-- The walk's last entry, with a READING of no point. -/
theorem test_meets_ReadingConditionsItsChannel_last :
    let s := attempt 90 0 .receiving
    let f : Frame := { dst := 0, src := 90, kind := 0x11, payload := [0] }
    s.transaction.map (·.owner) = some (.poll 90) ∧ receive 60 [0, 90, 0x11, 1, 0, 0x4B, 0xFE] = .frame f ∧
      validReply 90 f = true ∧ f.payload = 0 :: [].flatMap (fun p : Byte × Byte × Byte => [p.1, p.2.1, p.2.2]) ∧
      ∀ e ∈ s.pollList, e.address ≤ 90 := by decide

/-- A node that was not ONLINE, and a GOOD channel that a faulted sample sends to NODE_FAULT. -/
theorem test_meets_ReadingConditionsItsChannel_events :
    running.pollList.find? (fun e => e.address == 20) = some (pollEntry siteTables [] 20) ∧
      (pollEntry siteTables [] 20).state ≠ .online ∧
      (sampleRecord detector 2 (good 14 180 running).channels[14] 980 false true).health = .nodeFault := by decide

theorem test_meets_TransitAttemptsEndInTheirEntry (p : Phase) :
    let s := transit .query p
    s.inReset = false ∧ (∃ t, s.transaction = some t ∧ t.owner = .transit ∧ t.phase = p) ∧ s.deferredTick = false ∧
      s.tables.device.transitAllowance ≤ s.dispatched ∧ (∀ e ∈ s.transits, e.state = .sent → e.kind ≠ .config) ∧
      s.contention + 1 < 3 :=
  ⟨rfl, ⟨_, rfl, rfl, rfl⟩, rfl, (by decide : 2 ≤ 2), fun e he _ => by cases List.mem_singleton.mp he; decide,
    (by decide : 0 + 1 < 3)⟩

/-- A completion's close with a DRIVE refused before a permitted QUERY, with the refused one alone, and on a RELEASED segment; an
attempt below the allowance; a CONFIG in flight to a node with a GOOD channel. -/
theorem test_meets_TransitAttemptsEndInTheirEntry_dispatch :
    let s := closing [waitingEntry 90 .drive, waitingEntry 36 .query]
    ((runWork [.countHold] s).work = [] ∧ s.work = [] ∧ s.transaction = none ∧ s.segment = .polling ∧
      1 ≤ s.tables.device.transitAllowance ∧ s.transits = [waitingEntry 90 .drive] ++ waitingEntry 36 .query :: [] ∧
      permitted s .query 36 = true ∧ permitted s .drive 90 = false) ∧
    (∀ e ∈ (closing [waitingEntry 90 .drive]).transits, e.state = .waiting → permitted s e.kind e.dest = false) ∧
    ({ s with segment := .released }).segment ≠ .polling ∧
    (let u := { transit .query .receiving with dispatched := 1 }
     u.segment = .transit ∧ u.dispatched < u.tables.device.transitAllowance) ∧
    (let u := good 15 180 (transit .config .receiving)
     u.transits.find? (fun e => e.state == .sent) = some (sentEntry .config) ∧ u.tables.bindings[15].node = 36 ∧
      u.channels[15].health = .good) := by decide

/-- A third contention, a held tick, and a reception from another node. -/
theorem test_meets_TransitAttemptsEndInTheirEntry_ends :
    (let s := { transit .query .sending with contention := 2 }
     s.segment = .transit ∧ 3 ≤ s.contention + 1) ∧
    ({ transit .query .receiving with deferredTick := true }).deferredTick = true ∧
    (∃ f, receive 60 [0, 20, 0x11, 4, 0, 0, 3, 0xD4, 0xCF, 0x0B] = .frame f ∧
      validReply (fieldFrame 36 .query [1]).dst f = false) ∧
    receive 60 [0, 36, 0x11, 61] = .malformed ∧ receive 60 [0, 36, 0x11, 1, 0, 0xAB, 0xD2] = .crcError :=
  ⟨by decide, rfl, ⟨{ dst := 0, src := 20, kind := 0x11, payload := [0, 0, 3, 0xD4] }, by decide, by decide⟩, by decide,
    by decide⟩

theorem test_meets_EarlyEndOfAWalkCompletesTheSurvey :
    (let s := { attempt 36 0 .sending with contention := 2 }
     s.inReset = false ∧ s.contention = 2 ∧ s.segment = .polling ∧ (s.pollList.map (·.address)).Pairwise (· < ·)) ∧
    (let s := { attempt 36 0 .awaiting with tables := releasable.tables }
     s.mode ≠ .standby ∧ s.tables.device.releaseEnable = true ∧ s.releaseLine = false ∧ s.segment = .polling ∧
      s.transaction.map (·.owner) = some (.poll 36)) := by decide

theorem test_meets_TicksAreTakenByTheSegmentState :
    (running.inReset = false ∧ running.timerOn = true ∧ running.segment = .waiting ∧ running.work = [] ∧
      running.changes = [] ∧ running.pollList.map (·.address) = [20, 36, 90]) ∧
    (let s := { transit .query .sending with deferredTick := true, transaction := none, hold := true }
     s.deferredTick = true ∧ s.segment = .transit ∧ s.transaction = none ∧ s.hold = true) ∧
    ((attempt 36 0 .gap).timerOn = true ∧ (attempt 36 0 .gap).segment = .polling) ∧
    ((transit .query .sending).timerOn = true ∧ (transit .query .sending).transaction.isSome = true) ∧
    site.timerOn = false ∧
    (let s := { running with segment := .released }
     s.timerOn = true ∧ s.segment = .released ∧ s.releaseLine = false ∧ s.work = [] ∧ s.changes = [] ∧
      (after .cycleTick s).segment = .polling) ∧
    ((pollEntry siteTables [] 20).fan = none ∧ (pollEntry siteTables [] 90).fan = some 6 ∧
      siteTables.fans[6].group = 3 ∧ running.groups[3].handOver = false ∧
      (setGroup 3 { running.groups[3] with handOver := true } running).groups[3].handOver = true) := by decide

/-- An empty poll list, and a pause of a completion's work on a POLLING segment. -/
theorem test_meets_TicksAreTakenByTheSegmentState_pause :
    ({ running with pollList := [] }).pollList = [] ∧
    (let s := { running with segment := .polling, hold := true, work := [.countHold, .close] }
     s.timerOn = true ∧ s.segment ≠ .idle ∧ s.work ≠ [] ∧ s.transaction = none) := by decide

theorem test_meets_ApplyPointsTakeTheWholeList :
    let s := { running with changes := [.device DeviceEntry.default] }
    s.inReset = false ∧ s.timerOn = true ∧ s.segment = .waiting ∧ s.work = [] ∧ s.changes ≠ [] ∧
      (s.hold = false ∧ s.save = none) ∧ ({ s with hold := true }).hold = true := by decide

/-- Lists of which no record is applied, and one; an address of the list before and a new one; the first entry after it. -/
theorem test_meets_ApplyPointsTakeTheWholeList_close :
    let s := { running with changes := [.device DeviceEntry.default] }
    let u := { running with changes := [.binding 9 { detector with node := 40 }] }
    (applyRecords s.changes s).2 = (0, 1) ∧ (applyRecords u.changes u).2 = (1, 0) ∧
      running.pollList.find? (fun e => e.address == 36) = some (pollEntry siteTables [] 36) ∧
      (∀ e ∈ running.pollList, e.address ≠ 40) ∧ (applyPoint u).pollList.map (·.address) = [20, 36, 40, 90] := by decide

/-- BINDINGS records that orphan a fan, take a held key, take a full chain, move a key, and change a field with and without
effect; ZONES records that are refused, disable a zone, and enable one; FANS records with a taken drive, an unbound slot, and
under a hand-over. -/
theorem test_meets_ApplyPointsTakeTheWholeList_records :
    let b := running.tables.bindings
    let free : Binding := { detector with node := 40 }
    let filled : State := { running with chains := running.chains.set 4 [0, 1, 2, 3, 4, 5, 6, 7] }
    let handed : State := setGroup 3 { running.groups[3] with handOver := true } running
    (b[50].valid = true ∧ b[50].kind = .airflow ∧ running.tables.fans[6].airflowSlot = some 50) ∧
    (b[9].valid = false ∧ detector.valid = true ∧ b[14].node = 20 ∧ b[14].point = detector.point) ∧
    (bucketOf 4 0 = 4 ∧ 8 ≤ (filled.chains[4].filter fun j => j != 9).length) ∧
    (b[14].node ≠ free.node ∧ (running.chains[8].filter fun j => j != 14).length < 8 ∧
      ∀ j : Fin 64, j ≠ 14 → b[j].valid = true → b[j].node ≠ 40) ∧
    (b[14] = detector ∧ ({ detector with zone := 3 }).zone ≠ detector.zone ∧
      (good 14 180 running).channels[14].health = .good ∧ ({ detector with wetLevel := 0 }).span = detector.span) ∧
    (¬ (300 ≤ (280 : Nat)) ∧ running.tables.zones[2].enabled = true ∧ running.tables.zones[5].enabled = false ∧
      running.mode ≠ .standby ∧ site.mode = .standby ∧ running.tables.zones[2].groupMask.getLsbD 3 = true) ∧
    (running.tables.fans[6].enabled = true ∧ running.tables.fans[6].driveNode = 90 ∧ b[14].kind ≠ .airflow ∧
      running.tables.fans[5] ≠ { FanEntry.default with enabled := true, driveNode := 91, group := 3 } ∧
      handed.groups[3].handOver = true) ∧
    KeysLaw running :=
  ⟨by decide, by decide, by decide, by decide, by decide, by decide, by decide, by unfold KeysLaw; decide⟩

/-- ZONES records of a zone that stays disabled, and of one in ALARM, rising and wet that is disabled; an apply point that leaves
an empty poll list. -/
theorem test_meets_ApplyPointsTakeTheWholeList_zones :
    let t := running.tables.zones
    let shown : ZoneRecord := { ZoneRecord.cleared .alarm with rising := true, spill := .wet }
    (t[5].enabled = false ∧ ({ t[5] with vote := 3 } : ZoneEntry).enabled = false ∧ t[5] ≠ { t[5] with vote := 3 }) ∧
    (t[2].enabled = true ∧ t[2] ≠ { t[2] with enabled := false } ∧ shown.gas ≠ (ZoneRecord.cleared .inactive).gas ∧
      shown.rising ≠ (ZoneRecord.cleared .inactive).rising ∧ shown.spill ≠ (ZoneRecord.cleared .inactive).spill ∧
      t[2].groupMask.getLsbD 3 = true ∧ t[2].groupMask.getLsbD 0 = false) ∧
    (applyPoint { running with
      tables := Tables.default, chains := builtChains Tables.default.bindings, pollList := []
      changes := [.device DeviceEntry.default] }).pollList = [] := by decide

theorem test_meets_EmptyCyclesAskNoNode :
    (let s := { running with segment := .faulted, countdown := 2 }
     s.inReset = false ∧ s.timerOn = true ∧ s.work = [] ∧ s.changes = [] ∧ s.segment = .faulted) ∧
    (let s := { running with segment := .released, releaseLine := true }
     s.segment = .released ∧ s.releaseLine = true) := by decide

theorem test_meets_OverridesExpireAtTheGroupStep :
    let c : Context := { kind := .force, stage := 3, expiry := 1, tag := 0x0101 }
    let s := setGroup 2 { GroupRecord.cleared with stack := [c] } { running with work := [.countExpiry 2, .close] }
    s.inReset = false ∧ s.work = .countExpiry 2 :: [.close] ∧ s.groups[2].stack = c :: [] ∧ c.expiry = 1 := by decide

/-- An empty stack, and a top context with a count of 0, of 1 and of 2. -/
theorem test_meets_OverridesExpireAtTheGroupStep_counts :
    let c (expiry : Nat) : Context := { kind := .force, stage := 3, expiry := expiry, tag := 0 }
    let s (expiry : Nat) : State := setGroup 2 { GroupRecord.cleared with stack := [c expiry] } running
    running.groups[2].stack = [] ∧ ((s 0).groups[2].stack = c 0 :: [] ∧ (c 0).expiry = 0) ∧
      ((s 1).groups[2].stack = c 1 :: [] ∧ (c 1).expiry = 1) ∧ ((s 2).groups[2].stack = c 2 :: [] ∧ 2 ≤ (c 2).expiry) := by
  decide

/-- A STARTING fan without flow whose proof timer ends, one with time left and one with flow; a RUNNING one at its second
and its third low judgement; the hold's and the countdown's last count. -/
theorem test_meets_CountsEndWithTheirEffects :
    (let s (st : FanState) (timer streak : Nat) : State :=
       setFan 6 { FanRecord.cleared with state := st, timer := timer, streak := streak }
         { running with work := [.supervise 3] }
     (s .starting 1 0).inReset = false ∧ (s .starting 1 0).work = .supervise 3 :: [] ∧
      (s .starting 1 0).fans[6].state = .starting ∧ (s .starting 1 0).fans[6].fresh = false ∧
      (s .starting 1 0).tables.fans[6].airflowSlot = some 50 ∧ (s .starting 1 0).tables.fans[6].group = 3 ∧
      ¬ ((s .starting 1 0).channels[50].health = .good ∨ (s .starting 1 0).channels[50].health = .held) ∧
      (good 50 150 (s .starting 1 0)).channels[50].health = .good ∧
      (s .starting 1 0).tables.fans[6].proofLevel ≤ (good 50 150 (s .starting 1 0)).channels[50].filtered ∧
      (s .starting 1 0).fans[6].timer ≤ 1 ∧ 1 < (s .starting 2 0).fans[6].timer ∧
      (s .running 0 1).fans[6].streak + 1 < 3 ∧ ¬ (s .running 0 2).fans[6].streak + 1 < 3 ∧
      (s .starting 1 0).groups[3].runSet = [6]) ∧
    (let s := { running with hold := true, holdCount := 119, work := [.countHold] }
     s.work = .countHold :: [] ∧ s.hold = true ∧ s.tables.device.holdLimit ≤ s.holdCount + 1) ∧
    (let s := { running with segment := .faulted, countdown := 1, work := [.countFaulted] }
     s.work = .countFaulted :: [] ∧ s.segment = .faulted ∧ s.countdown ≤ 1) := by decide

/-- Part (a) at stage 0 with a RUNNING fan, and at stage 1 with an OFF run-set fan, with an airflow slot and without; part (d)
with a RUNNING fan. -/
theorem test_meets_CountsEndWithTheirEffects_starts :
    (staged 0 .running 25).groups[3].commanded = 0 ∧ siteTables.fans[6].group = 3 ∧
      (staged 0 .running 25).fans[6].state = .running ∧ 0 < (staged 1 .off 0).groups[3].commanded ∧
      6 ∈ (staged 1 .off 0).groups[3].runSet ∧ (staged 1 .off 0).fans[6].state = .off ∧
      (startsAndStops 3 (staged 1 .off 0)).fans[6].state ≠ (staged 1 .off 0).fans[6].state ∧
      siteTables.fans[6].airflowSlot ≠ none ∧ pairTables.fans[5].airflowSlot = none := by decide

/-- Each count one above its last, and at its last; hold off. -/
theorem test_meets_CountsEndWithTheirEffects_counts :
    (let s (n : Nat) : State := { running with hold := true, holdCount := n }
     (s 118).holdCount + 1 < (s 118).tables.device.holdLimit ∧ (s 119).tables.device.holdLimit ≤ (s 119).holdCount + 1) ∧
      running.hold = false ∧
      (let s (n : Nat) : State := { running with mode := .warmup, warmupLeft := n }
       (s 2).mode = .warmup ∧ 2 ≤ (s 2).warmupLeft ∧ (s 1).warmupLeft ≤ 1) ∧
      (let s (n : Nat) : State := { running with segment := .faulted, countdown := n }
       (s 2).segment = .faulted ∧ 2 ≤ (s 2).countdown ∧ (s 1).countdown ≤ 1) := by decide

/-- R123's three results: an UNAVAILABLE group and a mode other than RUN; fan 6 OFF and STARTING at a stage above 0; RUNNING,
MANUAL, and no group that calls for air. -/
theorem test_meets_WarmupEndsInRun_vent :
    ventFunction (setGroup 3 { running.groups[3] with condition := .unavailable } running) = .unproven ∧
      ventFunction { running with mode := .warmup } = .unproven ∧ ventFunction (staged 1 .off 0) = .pending ∧
      ventFunction (staged 1 .starting 25) = .pending ∧ ventFunction (staged 1 .running 25) = .proven ∧
      ventFunction (staged 1 .manual 0) = .proven ∧ ventFunction running = .proven := by decide

theorem test_meets_WarmupEndsInRun :
    let s := { running with mode := .warmup, warmupLeft := 1, work := [.countWarmup] }
    s.inReset = false ∧ s.work = .countWarmup :: [] ∧ s.mode = .warmup ∧ s.warmupLeft ≤ 1 ∧ s.outputs.ventProven = false := by
  decide

theorem test_meets_ServiceReleaseEdges :
    site.mode = .standby ∧ running.tables.device.releaseEnable = false ∧
    (releasable.inReset = false ∧ releasable.mode ≠ .standby ∧ releasable.tables.device.releaseEnable = true ∧
      releasable.releaseLine = false ∧ releasable.segment = .waiting ∧ releasable.transaction = none ∧ releasable.work = [] ∧
      releasable.deferredTick = false) ∧
    (let s := { releasable with segment := .released, releaseLine := true }
     s.releaseLine = true ∧ s.segment = .released) := by decide

/-- A FAULTED segment, one in a pause of its completion, a transit transaction with and without a held tick, and a RELEASED one. -/
theorem test_meets_ServiceReleaseEdges_segments :
    let s := { transit .query .sending with tables := releasable.tables }
    (s.inReset = false ∧ s.mode ≠ .standby ∧ s.tables.device.releaseEnable = true ∧ s.releaseLine = false ∧
      s.segment = .transit ∧ s.transaction.map (·.owner) = some .transit ∧ s.deferredTick = false ∧ s.timerOn = true) ∧
    ({ s with deferredTick := true }).deferredTick = true ∧
    ({ releasable with segment := .faulted, countdown := 2 }).segment = .faulted ∧
    (let u := { releasable with segment := .polling, work := [.countHold, .close] }
     u.transaction = none ∧ u.deferredTick = false ∧ u.work ≠ [] ∧ u.segment ≠ .released) ∧
    ({ releasable with segment := .released }).releaseLine = false := by decide

theorem test_meets_SavesWriteTheSnapshot :
    running.save = none ∧ saving.save ≠ none ∧ saving.Listening ∧ saving.inReset = false ∧
      (∀ p, ({ snapshot := siteTables, phase := p } : Save).phase = p) :=
  ⟨rfl, nofun, ⟨by decide, by decide, by decide, by decide⟩, by decide, fun _ => rfl⟩

theorem test_meets_SavesCompleteByTheReadBack :
    saving.inReset = false ∧ ∃ v, saving.save = some v ∧ v.phase = .written := ⟨by decide, _, rfl, rfl⟩

/-- A part that does not listen, and receptions that are malformed, of a bad CRC, cut short, and for another station. -/
theorem test_meets_TrunkPortCommands :
    (List.replicate 120 (0 : Byte)).length ≤ 120 ∧ (0x47 : Byte).toNat ∉ [0x40, 0x41, 0x42, 0x43, 0x44, 0x45, 0x46, 0x50] ∧
      (0x72 : Byte).toNat ∉ [0x60, 0x61, 0x62, 0x63, 0x68, 0x70, 0x71] ∧
      listens { running with inReset := true } = false ∧ receive 120 [1, 7, 0x40, 121] = .malformed ∧
      receive 120 [1, 7, 0x40, 0, 0, 0] = .crcError ∧ receive 120 [1, 7, 0x40, 0, 0] = .unfinished ∧
      (∃ f, receive 120 [127, 7, 0x40, 0, 0x9A, 0x07] = .frame f ∧ f.dst = 127) ∧
      ∀ b, ({ running with trunkPort := .answering (fieldFrame 0 .query []) b }).trunkPort =
        .answering (fieldFrame 0 .query []) b :=
  ⟨by decide, by decide, by decide, by decide, by decide, by decide, by decide,
    ⟨{ dst := 127, src := 7, kind := 0x40, payload := [] }, by decide, rfl⟩, fun _ => rfl⟩

theorem test_meets_RequestsOfAnotherFormAreRefused :
    ([0] : List Byte) ≠ [] ∧ ([] : List Byte).length ≠ 1 ∧ ([0, 0] : List Byte).length ≠ 1 ∧
      ([0, 0] : List Byte).length ≤ 120 ∧ ([0, 0, 0, 0] : List Byte).length ≠ 3 ∧
      ([0, 0, 0, 0, 0, 0] : List Byte).length ≠ 7 ∧ ([0, 0] : List Byte).length < 3 ∧ ([0] : List Byte).length < 2 := by decide

theorem test_meets_AttentionByteBits :
    let s := after (.status 1 [7, 0x40, 0, 0x7A, 0x28]) running
    running.trunkPort = .listening ∧ running.work = [] ∧ s.trunkPort ≠ .listening := by decide

/-- Node addresses at the ends of 1..126, a listed and an unlisted one, and numbers above the last record's. -/
theorem test_meets_RecordReadsReturnTheRecord :
    (1 : Byte).toNat = 1 ∧ (126 : Byte).toNat = 126 ∧ (127 : Byte).toNat = 127 ∧ (64 : Byte).toNat = 64 ∧
      running.pollList.find? (fun e => e.address == 90) = some (pollEntry siteTables [] 90) ∧
      (∀ e ∈ running.pollList, e.address ≠ 126) := by decide

theorem test_meets_ReadTableReturnsTheBlock :
    0 + 8 ≤ tableSize .fans ∧ 63 + 1 ≤ tableSize .bindings ∧ tableSize .device < (1 : Byte).toNat + (1 : Byte).toNat ∧
      (6 : Byte).toNat = 6 ∧ (9 : Byte).toNat = 9 ∧ KeysLaw running :=
  ⟨by decide, by decide, by decide, by decide, by decide, by unfold KeysLaw; decide⟩

/-- Two entries for a list with room for one, and for an empty list. -/
theorem test_meets_WriteTableAppendsItsEntries :
    let cs : List Change := [.fan 6 FanEntry.default, .fan 7 FanEntry.default]
    let s := { running with changes := List.replicate 31 (.device DeviceEntry.default) }
    s.Listening ∧ (∀ c ∈ cs, c.InRange ∧ c.table = .fans) ∧ (∀ (k : Nat) (h : k < cs.length), (cs[k]'h).index = 6 + k) ∧
      s.changes.length ≤ 32 ∧ 1 ≤ cs.length ∧ cs.length ≤ 8 := by
  refine ⟨by unfold State.Listening; decide, ?_, ?_, by decide, by decide, by decide⟩
  · intro c hc
    simp only [List.mem_cons, List.not_mem_nil, or_false] at hc
    rcases hc with rfl | rfl <;> exact ⟨rfl, rfl⟩
  · intro k h
    match k, h with
    | 0, _ => rfl
    | 1, _ => rfl

theorem test_meets_WriteTableAndHoldAnswers :
    DeviceEntry.default.inRange = true ∧ running.mode ≠ .standby ∧ (4 : Byte).toNat = 4 ∧
      ({ GroupEntry.default with runCount := 5 } : GroupEntry).inRange = false ∧
      GroupEntry.default.proofTimeout < 256 ∧ GroupEntry.default.runOn < 65536 ∧ (∀ i : Fin 4, GroupEntry.default.speed[i] < 256) ∧
      GroupEntry.default.stageMap.inRange = true ∧ ([0] : List Byte).length ≠ (1 : Byte).toNat * entrySize .zones ∧
      2 ≤ (2 : Byte).toNat := by decide

/-- A ZONES block that runs past index 15 after one entry, with another entry behind; the list full after that one; and an entry
with its order field fit and its drive node 0. -/
theorem test_meets_WriteTableAndHoldAnswers_stops :
    let e := { ZoneEntry.default with groupMask := 8 }
    let cs : List Change := [.zone 15 e]
    let s := { running with changes := List.replicate 31 (.device DeviceEntry.default) }
    let fan := encodeFan { FanEntry.default with driveNode := 0 }
    (∀ c ∈ cs, c.InRange ∧ c.table = .zones) ∧ s.changes.length + cs.length ≤ 32 ∧ cs.length + 1 + 1 ≤ 8 ∧
      ((encodeZone e).length = entrySize .zones ∧ strayFlags .zones (encodeZone e) = false ∧
        strayPacked .zones (encodeZone e) = false) ∧
      (∀ c : Change, c.InRange → c.table = .zones → c.index = 15 + cs.length → c.bytes ≠ encodeZone e) ∧
      (fan.length = entrySize .fans ∧ strayFlags .fans fan = false ∧ strayPacked .fans fan = false) ∧
      ∀ c : Change, c.InRange → c.table = .fans → c.index = 0 → c.bytes ≠ fan := by
  refine ⟨?_, by decide, by decide, by decide, ?_, by decide, ?_⟩
  · intro c hc
    cases List.mem_singleton.mp hc
    exact ⟨rfl, rfl⟩
  · rintro (⟨i, e⟩ | ⟨z, e⟩ | ⟨g, e⟩ | ⟨f, e⟩ | e) - ht hi <;> cases ht
    exact absurd hi (by simp only [Change.index, List.length_singleton]; omega)
  · rintro (⟨i, e⟩ | ⟨z, e⟩ | ⟨g, e⟩ | ⟨f, e⟩ | e) hr ht - heq <;> cases ht
    have low : 1 ≤ e.driveNode ∧ e.driveNode ≤ 126 := by
      have := of_decide_eq_true hr; exact ⟨this.1, this.2.1⟩
    have node : e.driveNode % 256 = 0 := congrArg (fun bs => (bs.getD 1 0).toNat) heq
    omega

/-- Entries with an unassigned flag bit: the least one of each table that has one. -/
theorem test_meets_WriteTableAndHoldAnswers_flags :
    16 ≤ (16 : Byte).toNat ∧ (4 : Byte).getLsbD 2 = true ∧ (8 : Byte).getLsbD 3 = true ∧ 2 ≤ (2 : Byte).toNat ∧
      ([4, 0, 0, 0, 0, 0, 0, 0, 0, 0, 0, 0, 0] : List Byte).length = (1 : Byte).toNat * entrySize .zones := by decide

theorem test_meets_RunEntersWarmup :
    running.mode ≠ .standby ∧ site.mode = .standby ∧ site.changes = [] ∧ StandbyLaw site := by
  refine ⟨by decide, by decide, by decide, ?_⟩
  unfold StandbyLaw; decide

/-- RUN with a DEVICE record last in the list (R185): its warmup count of 2 is loaded; with the release line asserted and acted on
the segment is RELEASED. R184, R185: the events in their order. -/
theorem test_meets_RunEntersWarmup_records :
    let d := { DeviceEntry.default with warmupCount := 2, releaseEnable := true }
    let s := { site with changes := [.zone 5 ZoneEntry.default] ++ [.device d], releaseLine := true }
    let t := enterWarmup s
    (s.mode = .standby ∧ s.hold = false ∧ s.save = none) ∧ (t.warmupLeft, t.segment) = (2, .released) ∧
      (t.events.map fun e => (e.kind, e.detail)) =
        [(.started, 0), (.applied, 0x0200), (.modeChange, 0x0100), (.segmentState, 0x0500), (.serviceRelease, 1)] := by decide

/-- R184, R148: the events of a STANDBY entry from RUN and WAITING. -/
theorem test_standby_events :
    ((enterStandby running).events.map fun e => (e.kind, e.detail)) =
      [(.started, 0), (.modeChange, 0x0002), (.segmentState, 0x0001)] ∧ running.segment ≠ .idle := by decide

theorem test_meets_StandbyEntryRestartsTheRecords : site.mode = .standby ∧ running.mode ≠ .standby := by decide

theorem test_meets_RestartKeepsTheTables : running.save = none := by decide

theorem test_meets_AcknowledgeSetsTheFlags : 16 ≤ (16 : Byte).toNat ∧ (254 : Byte).toNat ≤ 254 := by decide

/-- An unknown kind, a FORCE of stage 5, the same stage with HOLD, and group 4. -/
theorem test_meets_PushesAndPopsActOnTheTop_refused :
    3 ≤ (3 : Byte).toNat ∧ byteOf OverrideKind.force.code = 0 ∧ 5 ≤ (5 : Byte).toNat ∧
      ¬ (3 ≤ (byteOf OverrideKind.hold.code).toNat ∨
        (byteOf OverrideKind.hold.code = byteOf OverrideKind.force.code ∧ 5 ≤ (5 : Byte).toNat)) ∧
      4 ≤ (4 : Byte).toNat ∧ (0 : Byte).toNat ≤ 4 := by decide

theorem test_meets_PushesAndPopsActOnTheTop :
    let c : Context := { kind := .manual, stage := 0, expiry := 95, tag := 0x0303 }
    let full := setGroup 3 { running.groups[3] with stack := [c, c, c, c] } running
    running.groups[3].stack.length < 4 ∧ running.groups[3].stack = [] ∧ full.Listening ∧
      4 ≤ full.groups[3].stack.length ∧ full.groups[3].stack = c :: [c, c, c] ∧ (4 : Byte).toNat ≤ 4 :=
  ⟨by decide, by decide, by unfold State.Listening; decide, by decide, by decide, by decide⟩

/-- A fan that joins the run set, one that stands in it already, and a number above the last fan's. -/
theorem test_meets_FanResetReturnsTheFan :
    let s := setFan 6 { FanRecord.cleared with state := .failed, reason := .lostFlow }
      (setGroup 3 { running.groups[3] with runSet := [] } running)
    running.fans[6].state ≠ .failed ∧ s.fans[6].state = .failed ∧ 6 ∉ s.groups[s.tables.fans[6].group].runSet ∧
      6 ∈ running.groups[3].runSet ∧ judging.work ≠ [] ∧ 8 ≤ (8 : Byte).toNat := by decide

/-- A QUERY, a DRIVE at 100 % and a CONFIG of 56 bytes; the permits of each held and not held; a full queue. -/
theorem test_meets_PassChecksAndAppends :
    (1 ≤ (126 : Byte).toNat ∧ ([0x0F] : List Byte).length = 1 ∧ (([100, 4] : List Byte).getD 0 0).toNat ≤ 100 ∧
      (List.replicate 56 (0 : Byte)).length ≤ 56 ∧ (List.replicate 118 (0 : Byte)).length ≤ 118) ∧
    permitted running .config 20 = true ∧ permitted (setZone 2 (ZoneRecord.cleared .alert) running) .config 20 = false ∧
    permitted running .drive 90 = false ∧
    permitted (setGroup 3 { running.groups[3] with handOver := true } running) .drive 90 = true ∧
    4 ≤ ({ running with transits := List.replicate 4 (sentEntry .query) }).transits.length ∧
    (0x11 : Byte).toNat ∉ [0x10, 0x12, 0x13] ∧ site.mode = .standby ∧ running.transits.length < 4 := by decide

theorem test_meets_CollectTakesTheOldest :
    running.transits = [] ∧ (transit .query .awaiting).transits = sentEntry .query :: [] ∧ (sentEntry .query).state = .sent ∧
      ({ sentEntry .drive with state := .done .reply }).state = .done .reply := by decide

theorem test_meets_ConditioningAndSmoothing :
    detector.inRange = true ∧ (4095 : Nat) ≤ 4095 ∧ ((-51 : Int) < -50) ∧ ((-50 : Int) ≤ -50 ∧ (-50 : Int) < 0) ∧
      ((0 : Int) ≤ 1000 ∧ (1000 : Int) ≤ 1000) ∧ (1000 : Int) < 1001 := by decide

/-- A faulted sample, an underrange one, and usable ones for a settling and for a GOOD channel. -/
theorem test_meets_SamplesDecideTheHealth :
    let c : ChannelRecord := { ChannelRecord.restarted .settling with settleLeft := 1 }
    c.health ≠ .disabled ∧ (c.health = .settling → 1 ≤ c.settleLeft) ∧
      (detector.kind ≠ .contact ∧ conditionRaw { detector with zeroOffset := 300 } 20 < -50) ∧
      ¬ (detector.kind ≠ .contact ∧ conditionRaw detector 980 < -50) ∧
      (ChannelRecord.restarted .good).health = .good := by decide

theorem test_meets_AgingDecidesTheHealth :
    (ChannelRecord.restarted .good).health ≠ .disabled ∧ (ChannelRecord.restarted .good).mark = .none ∧
      ({ ChannelRecord.restarted .good with mark := .usable }).mark = .usable ∧
      ({ ChannelRecord.restarted .nodeFault with mark := .unusable }).mark = .unusable := by decide

/-- The worked example's E3, E5 (latched), E7 (acknowledged) and a zone in FAULT. -/
theorem test_meets_ZoneEvaluationDecidesGasRisingAndContacts :
    let e := ZoneEntry.default
    let latchedZone := ZoneRecord.cleared .alarm
    ([420, 300, 260] : List Nat) ≠ [] ∧ e.watch ≤ e.alert ∧ e.alert ≤ e.alarm ∧ 1 ≤ e.vote ∧
      upTarget e [420, 300, 260] = .alert ∧ upTarget e [390, 380, 300] = .alert ∧ latchedZone.gas = .alarm ∧ e.latch = true ∧
      latchedZone.alarmAck = false ∧ ({ latchedZone with alarmAck := true }).alarmAck = true ∧
      (ZoneRecord.cleared .fault).gas = .fault := by decide

/-- No healthy member: unbound, in WARMUP, all settling, and not all; latched and not. A ring below and at 8 entries, one of W
entries and one of W + 1, with a healthy member and without; the states in which RISING is cleared and kept. -/
theorem test_meets_ZoneEvaluationDecidesGasRisingAndContacts_steps :
    let e := ZoneEntry.default
    let latchedZone := ZoneRecord.cleared .alarm
    (latchedZone.gas = .alarm ∧ e.latch = true ∧ latchedZone.alarmAck = false ∧ latchedZone.gas ≠ .inactive) ∧
      ¬ ((ZoneRecord.cleared .watch).gas = .alarm) ∧ (1 ≤ (2 : Nat) ∧ (1 : Nat) ≠ 2 ∧ Mode.run ≠ .warmup) ∧
      ([20, 25, 35, 50] : List Nat).length < 8 ∧ ([25, 35, 50, 70, 85, 90, 92] : List Nat).length = 7 ∧
      ([20, 25, 35] : List Nat).length ≤ 3 ∧
      ([20, 25, 35, 50, 70] : List Nat) = [20] ++ 25 :: [35, 50] ++ [70] ∧ ([35, 50] : List Nat).length + 1 = 3 ∧
      ((70 : Int) - 25 < 50 ∧ (50 / 2 : Nat) = 25) ∧ (ZoneRecord.cleared .alert).gas = .alert ∧
      (ZoneRecord.cleared .watch).healthy = 0 ∧ 1 ≤ ({ ZoneRecord.cleared .watch with healthy := 1 }).healthy := by decide

/-- A zone that goes to WATCH and to WET in its evaluation, a group it does not serve, and a fan of another group. -/
theorem test_meets_ZoneEvaluationDecidesGasRisingAndContacts_frame :
    (evaluateZone 2 (good 14 180 running)).zones[2].gas = .watch ∧ (evaluateZone 2 (pads 340 100 .good)).zones[2].spill = .wet ∧
      siteTables.zones[2].groupMask.getLsbD 0 = false ∧ siteTables.fans[0].group = 0 := by decide

/-- A channel that aging takes to STALE, one it takes to HELD, and a DISABLED one. -/
theorem test_meets_AgingDecidesTheHealth_completion :
    let s := setChannel 14 { ChannelRecord.restarted .held with age := 2 } (good 15 0 running)
    let t := ageChannels s
    (t.channels[14].health, t.channels[15].health, t.channels[0].health) = (.stale, .held, .disabled) ∧
      (t.events.map (·.kind)) = [.started, .channelHealth] := by decide

/-- A zone whose pads are healthy, one that has none, and one with an unhealthy pad. -/
theorem test_meets_SpillStepTransitions_inputs :
    (pads 300 249 .good).channels[14].health = .good ∧ (pads 249 249 .held).channels[15].health = .held ∧
      (spillInputs running 2).bound = 0 ∧ (pads 249 900 .stale).channels[15].health = .stale ∧
      (pads 0 0 .good).tables.bindings[14].kind = .leak := by decide

theorem test_meets_SpillStepTransitions :
    let q (h : Nat) (wet dry : Bool) : SpillInputs := { bound := 2, healthy := h, wet := wet, allDry := dry }
    ((q 2 true false).healthy ≤ (q 2 true false).bound ∧ ¬ ((q 2 true false).wet = true ∧ (q 2 true false).allDry = true)) ∧
      ((q 0 false false).healthy = 0 ∧ 1 ≤ (q 0 false false).bound) ∧
      ¬ ((q 1 false true).wet = true ∧ (q 1 false true).allDry = true) ∧
      (ZoneRecord.cleared .normal).spill = .dry ∧ ({ ZoneRecord.cleared .normal with spill := .latched }).spill = .latched := by
  decide

/-- Below by two stages with a setting of 3, at the last step of the count, below its end, equal, and above. -/
theorem test_meets_StageUpdateByRunOn :
    let r : GroupRecord := { GroupRecord.cleared with effective := 2, commanded := 4 }
    (1 ≤ 3 ∧ r.effective + 2 ≤ r.commanded ∧ r.runOn = 0 ∧ r.runOn + 1 < 3) ∧ 3 ≤ ({ r with runOn := 2 }).runOn + 1 ∧
      GroupRecord.cleared.effective = GroupRecord.cleared.commanded ∧
      ({ r with commanded := 1 }).commanded < ({ r with commanded := 1 }).effective ∧ r.floor ≤ r.effective := by decide

theorem test_meets_PostsCoalesceAppendOrAreLost :
    let r : EventRecord := { kind := .cycleOverrun, subject := 0, detail := 36, stamp := 9001, repeats := 15 }
    ({ site with events := [r] }).events = [] ++ [r] ∧ ({ site with events := [r] }).events.length < 48 ∧
      48 ≤ ({ site with events := List.replicate 48 r }).events.length ∧ r.kind ≠ .fanState := by decide

/-- States that meet the laws a step keeps, with a command that steps them. -/
theorem test_meets_invariants :
    (EventsLaw running ∧ SizesLaw running ∧ FilteredLaw running ∧ ChargeLaw running ∧ ModeOutputsLaw running) ∧
      (StagingLaw running ∧ HandOverLaw running) ∧ (KeysLaw running ∧ PollLaw State.reset) ∧
      (StandbyLaw site ∧ SetpointLaw running ∧ RunSetLaw running ∧ CompletionLaw (attempt 36 0 .awaiting) ∧
        CompletionLaw judging) ∧
      ∃ t, step { running with pending := [.cycleTick] } = .next t := by
  refine ⟨?_, ?_, ?_, ?_, _, rfl⟩
  · unfold EventsLaw SizesLaw FilteredLaw ChargeLaw ModeOutputsLaw; decide
  · refine ⟨⟨⟨?_, ?_⟩, ?_, ?_, ?_⟩, ?_⟩
    · unfold Tables.InRange; decide
    · exact fun c hc => by cases hc
    · unfold ContextsLaw; decide
    · unfold FreshStages; decide
    · unfold CommandedLaw; decide
    · intro g
      refine iff_of_false ?_ ?_
      · revert g; decide
      · rintro ⟨-, ⟨c, cs, h, -⟩, -⟩
        have none : ∀ g : Fin 4, running.groups[g].stack = [] := by decide
        rw [none] at h; cases h
  · refine ⟨by unfold KeysLaw; decide, by decide, fun a => iff_of_false ?_ ?_⟩
    · rintro ⟨e, he, -⟩; cases he
    · rintro (⟨i, h, -⟩ | ⟨f, h, -⟩)
      · revert i; decide
      · revert f; decide
  · refine ⟨?_, ?_, ?_, ?_, ?_⟩
    · unfold StandbyLaw; decide
    · unfold SetpointLaw; decide
    · refine ⟨by decide, fun g => ⟨?_, ?_, ?_⟩⟩
      · revert g; decide
      · revert g; decide
      · revert g; decide
    · exact ⟨by decide, by decide, fun w ws h => nomatch h⟩
    · refine ⟨by decide, by decide, fun w ws h => ?_⟩
      cases h; decide

/-- A member zone of group 3 that shows a condition of the floor set, and one not; the three modes; the tops of a stack. -/
theorem test_meets_EveryStepKeepsTheStagingLaws_stages :
    let s := setZone 2 { ZoneRecord.cleared .watch with spillBlind := true } running
    s.tables.zones[2].enabled = true ∧ s.tables.zones[2].groupMask.getLsbD 3 = true ∧ s.zones[2].gas = .watch ∧
      (demandOf s 3, floorOf s 3) = (4, 4) ∧ s.mode ≠ .standby ∧ site.mode = .standby ∧ Mode.warmup ≠ .standby ∧
      GroupRecord.cleared.stack = [] ∧
      effectiveOf .run { GroupRecord.cleared with
        floor := 2, stack := [{ kind := .manual, stage := 0, expiry := 0, tag := 0 }] } = 2 := by decide

/-- A RUN request that applies a ZONES record in STANDBY: the tables and the mode change. -/
theorem test_meets_TablesChangeOnlyAtApplyPoints :
    let s := { site with
      pending := [.run 1 [7, 0x58, 0, 0xF0, 0xF2]], changes := [.zone 5 { ZoneEntry.default with enabled := true, groupMask := 8 }] }
    ∃ t, step s = .next t ∧ t.tables ≠ s.tables ∧ t.mode ≠ s.mode ∧
      (∀ straps rate, Instr.run 1 [7, 0x58, 0, 0xF0, 0xF2] ≠ .deviceReset straps rate) :=
  ⟨_, rfl, by decide, by decide, nofun⟩

/-- The DEVICE entry changes in STANDBY. -/
theorem test_meets_TablesChangeOnlyAtApplyPoints_device :
    let s := { site with
      pending := [.run 1 [7, 0x58, 0, 0xF0, 0xF2]], changes := [.device { DeviceEntry.default with warmupCount := 2 }] }
    ∃ t, step s = .next t ∧ t.tables.device ≠ s.tables.device := ⟨_, rfl, by decide⟩

theorem test_meets_ModesChangeInFourWays :
    ∃ t, step { site with pending := [.run 1 [7, 0x58, 0, 0xF0, 0xF2]] } = .next t ∧ t.mode ≠ site.mode := ⟨_, rfl, by decide⟩

theorem test_meets_LatchedAlarmsStay :
    let s := setZone 2 (ZoneRecord.cleared .alarm) { running with pending := [.cycleTick] }
    s.pending = .cycleTick :: [] ∧ s.mode ≠ .standby ∧ s.tables.zones[2].enabled = true ∧ s.tables.zones[2].latch = true ∧
      s.zones[2].gas = .alarm ∧ s.zones[2].alarmAck = false ∧ (∃ t, step s = .next t) :=
  ⟨rfl, by decide, by decide, by decide, by decide, by decide, _, rfl⟩

/-- The first of two transits times out; the second is a DRIVE to node 90, whose group is under hand-over. -/
def drivePending : State :=
  let g : GroupRecord := { running.groups[3] with handOver := true, stack := [{ kind := .manual, stage := 0, expiry := 0, tag := 0 }] }
  setGroup 3 g
    { transit .query .awaiting with
      dispatched := 1, pending := [.replyTimeout]
      transits := [sentEntry .query,
        { sequence := 19, dest := 90, kind := .drive, payload := [60, 4], state := .waiting, reading := [] }] }

theorem test_meets_TransitDrivesOnlyUnderHandOver :
    HandOverLaw drivePending ∧ Work.close ∉ drivePending.work.dropLast ∧ drivePending.pending.head? ≠ some .nextAttempt ∧
      ∃ t, step drivePending = .next t ∧ t.transaction ≠ drivePending.transaction ∧ t.transaction =
        some { owner := .transit, frame := fieldFrame 90 .drive [60, 4], left := 0, phase := .sending } := by
  refine ⟨fun g => ?_, by decide, by decide, _, rfl, by decide, by decide⟩
  match g with
  | 0 => exact iff_of_false (by decide) (by rintro ⟨-, ⟨c, cs, h, -⟩, -⟩; revert h; exact nofun)
  | 1 => exact iff_of_false (by decide) (by rintro ⟨-, ⟨c, cs, h, -⟩, -⟩; revert h; exact nofun)
  | 2 => exact iff_of_false (by decide) (by rintro ⟨-, ⟨c, cs, h, -⟩, -⟩; revert h; exact nofun)
  | 3 => exact iff_of_true (by decide) ⟨by decide, ⟨_, _, rfl, rfl⟩, by decide⟩

end Sys2Proof.Machine.Tests
end

section
/-! PROOFS. The stage update of a group by run-on (R87): an equation for each of its rows, the steps of one run-on period,
and the bounds of the commanded stage. -/

namespace Sys2Proof.Machine

/-! ## The rows of the stage update -/

theorem stepStage_of_below {n : Nat} {r : GroupRecord} (below : r.commanded < r.effective) :
    stepStage n r = { r with commanded := r.commanded + 1, runOn := 0 } := if_pos below

theorem stepStage_of_equal {n : Nat} {r : GroupRecord} (equal : r.effective = r.commanded) :
    stepStage n r = { r with runOn := 0 } := by
  simp [stepStage, equal]

theorem stepStage_of_fall {n : Nat} {r : GroupRecord} (above : r.effective < r.commanded) (due : n ≤ r.runOn + 1) :
    stepStage n r = { r with commanded := r.commanded - 1, runOn := 0 } := by
  simp [stepStage, above.not_gt, above.ne, due]

theorem stepStage_of_wait {n : Nat} {r : GroupRecord} (above : r.effective < r.commanded) (early : r.runOn + 1 < n) :
    stepStage n r = { r with runOn := r.runOn + 1 } := by
  simp [stepStage, above.not_gt, above.ne, early.not_ge]

/-! ## One run-on period -/

/-- While the run-on count stays below the setting, steps only count. -/
theorem stepStage_iterate_of_wait {n : Nat} {r : GroupRecord} (above : r.effective < r.commanded) (k : Nat)
    (early : r.runOn + k < n) : (stepStage n)^[k] r = { r with runOn := r.runOn + k } := by
  induction k with
  | zero => rfl
  | succ k ih =>
    rw [Function.iterate_succ_apply', ih (by omega)]
    exact stepStage_of_wait above early

/-- The steps of a period before its last one leave the commanded stage. -/
theorem stepStage_iterate_commanded_of_wait {n : Nat} {r : GroupRecord} (positive : 1 ≤ n)
    (above : r.effective < r.commanded) (fresh : r.runOn = 0) : ((stepStage n)^[n - 1] r).commanded = r.commanded := by
  rw [stepStage_iterate_of_wait above (n - 1) (by omega)]

/-- A whole period from run-on 0 lowers the commanded stage once and ends with run-on 0, so that periods chain. -/
theorem stepStage_iterate_period {n : Nat} {r : GroupRecord} (positive : 1 ≤ n) (above : r.effective < r.commanded)
    (fresh : r.runOn = 0) : (stepStage n)^[n] r = { r with commanded := r.commanded - 1, runOn := 0 } := by
  obtain ⟨m, rfl⟩ : ∃ m, n = m + 1 := ⟨n - 1, by omega⟩
  rw [Function.iterate_succ_apply', stepStage_iterate_of_wait above m (by omega)]
  exact stepStage_of_fall above (show m + 1 ≤ r.runOn + m + 1 by omega)

/-- A drop by two stages: one stage falls at the `n`-th step and the second at the `2n`-th, and none before. -/
theorem stepStage_iterate_drop_two {n : Nat} {r : GroupRecord} (positive : 1 ≤ n)
    (dropped : r.effective + 2 ≤ r.commanded) (fresh : r.runOn = 0) :
    ((stepStage n)^[n - 1] r).commanded = r.commanded ∧ ((stepStage n)^[n] r).commanded = r.commanded - 1 ∧
      ((stepStage n)^[2 * n - 1] r).commanded = r.commanded - 1 ∧
      ((stepStage n)^[2 * n] r).commanded = r.commanded - 2 := by
  have firstPeriod := stepStage_iterate_period positive (by omega : r.effective < r.commanded) fresh
  have stillAbove : r.effective < r.commanded - 1 := by omega
  refine ⟨stepStage_iterate_commanded_of_wait positive (by omega) fresh, by rw [firstPeriod], ?_, ?_⟩
  · rw [show 2 * n - 1 = n - 1 + n by omega, Function.iterate_add_apply, firstPeriod]
    exact stepStage_iterate_commanded_of_wait positive stillAbove rfl
  · rw [Nat.two_mul, Function.iterate_add_apply, firstPeriod, stepStage_iterate_period positive stillAbove rfl]
    exact Nat.sub_sub _ 1 1

/-! ## The bounds of the commanded stage -/

@[simp] theorem stepStage_floor (n : Nat) (r : GroupRecord) : (stepStage n r).floor = r.floor := by
  unfold stepStage; split_ifs <;> rfl

/-- A step never moves the commanded stage past the effective stage. -/
theorem stepStage_commanded_between (n : Nat) (r : GroupRecord) :
    min r.commanded r.effective ≤ (stepStage n r).commanded ∧
      (stepStage n r).commanded ≤ max r.commanded r.effective := by
  obtain below | equal | above := Nat.lt_trichotomy r.commanded r.effective
  · rw [stepStage_of_below below]; dsimp only; omega
  · rw [stepStage_of_equal equal.symm]; dsimp only; omega
  · obtain due | early := le_or_gt n (r.runOn + 1)
    · rw [stepStage_of_fall above due]; dsimp only; omega
    · rw [stepStage_of_wait above early]; dsimp only; omega

/-- Settles O47: the rows are the equations of `stepStage`, the two falls are two run-on periods, and the bounds hold as the
commanded stage stays between its old value and the effective stage. -/
theorem stageUpdateByRunOn : Obligations.StageUpdateByRunOn := by
  intro n r
  refine ⟨stepStage_of_below, stepStage_of_equal, stepStage_of_fall, stepStage_of_wait, fun small above => ?_,
    stepStage_iterate_drop_two, fun floorLow effectiveTop floorHeld commandedTop => ?_⟩
  · rw [stepStage_of_fall above (by omega)]
  · obtain ⟨lower, upper⟩ := stepStage_commanded_between n r
    rw [stepStage_floor]
    exact ⟨(le_min floorHeld floorLow).trans lower, upper.trans (max_le commandedTop effectiveTop)⟩

end Sys2Proof.Machine
end

section
/-! PROOFS. DISCARD (R157): a request that carries no data, taken by a listening part, and the work of DISCARD. -/

namespace Sys2Proof.Machine

/-- The arm of `exec` for DISCARD. -/
theorem exec_discard (dst : Byte) (chars : List Byte) (s : State) :
    exec (.discard dst chars) s = .next (answerRequest 0x52 (dst :: chars) (withoutData discardWork) s) := rfl

/-- A listening part answers a request sent to it without data by that request's work (R168 to R170). -/
theorem answerRequest_asked_withoutData {s : State} (listening : s.Listening) (code src : Byte) (work : State → Answer) :
    answerRequest code (s.station :: s.asked code src []) (withoutData work) s =
      answered code src (work s).result (work s).data (work s).state :=
  answerRequest_taken (takes_asked (payload := []) listening (Nat.zero_le 120)) (withoutData work)

/-- Settles O32: the request is taken, and its work empties the list and counts the records it held. -/
theorem discardEmptiesTheList : Obligations.DiscardEmptiesTheList := by
  intro s src listening
  rw [exec_discard, answerRequest_asked_withoutData listening]
  rfl

end Sys2Proof.Machine
end

section
/-! PROOFS. PASS (R175, R176): the form of a payload and the permit as the manual states them, the work of PASS check by
check, and the request taken by a listening part. -/

namespace Sys2Proof.Machine

/-- The arm of `exec` for PASS. -/
theorem exec_pass (dst : Byte) (chars : List Byte) (s : State) :
    exec (.pass dst chars) s = .next (answerRequest 0x70 (dst :: chars) passWork s) := rfl

/-- A listening part answers PASS with what its work gives (R169). -/
theorem exec_pass_asked {s : State} (listening : s.Listening) {src : Byte} {payload : List Byte}
    (short : payload.length ≤ 120) {a : Answer} (work : passWork payload s = a) :
    exec (.pass s.station (s.asked 0x70 src payload)) s = .next (answered 0x70 src a.result a.data a.state) := by
  rw [exec_pass, answerRequest_taken (takes_asked listening short), work]

/-! ## The form of a payload -/

theorem passForm_query {bs : List Byte} : passForm .query bs = true ↔ bs.length = 1 := by
  match bs with
  | [] | [_] | _ :: _ :: _ => simp [passForm]

theorem passForm_drive {bs : List Byte} :
    passForm .drive bs = true ↔ bs.length = 2 ∧ (bs.getD 0 0).toNat ≤ 100 := by
  match bs with
  | [] | [_] | [_, _] | _ :: _ :: _ :: _ => simp [passForm]

theorem passForm_config {bs : List Byte} : passForm .config bs = true ↔ 1 ≤ bs.length ∧ bs.length ≤ 56 := by
  simp [passForm]

/-! ## The permit -/

theorem permitted_query (s : State) (dest : Nat) : permitted s .query dest = true := rfl

/-- R176: what keeps a CONFIG from its destination is one valid binding of that node whose zone is at ALERT or above, in
FAULT, or in PURGE. -/
theorem permitted_config {s : State} {dest : Nat} :
    permitted s .config dest = true ↔
      ∀ i : Fin 64, s.tables.bindings[i].valid = true → s.tables.bindings[i].node = dest →
        let z := s.zones[s.tables.bindings[i].zone]
        z.gas ≠ .alert ∧ z.gas ≠ .alarm ∧ z.gas ≠ .fault ∧ z.purge = false := by
  simp [permitted, configDenied, and_assoc]

/-- R176: a DRIVE goes to the drive node of an enabled fan whose group is under hand-over. -/
theorem permitted_drive {s : State} {dest : Nat} :
    permitted s .drive dest = true ↔
      ∃ f : Fin 8, s.tables.fans[f].enabled = true ∧ s.tables.fans[f].driveNode = dest ∧
        s.groups[s.tables.fans[f].group].handOver = true := by
  simp [permitted, drivePermitted, fanGroup, and_assoc]

/-! ## The work of PASS, check by check -/

theorem passWork_unknownKind {dest code : Byte} {bs : List Byte} {s : State} (unknown : code.toNat ∉ [0x10, 0x12, 0x13]) :
    passWork (dest :: code :: bs) s = answerOnly .badRequest s := by
  simp only [passWork, frameKindOfCode_eq_none.mpr unknown]

/-- The checks of PASS in their order (R175), once the kind's code is decoded. -/
theorem passWork_kind (dest : Byte) (k : FrameKind) (bs : List Byte) (s : State) :
    passWork (dest :: byteOf k.code :: bs) s =
      if ¬ (1 ≤ dest.toNat ∧ dest.toNat ≤ 126) ∨ passForm k bs = false then answerOnly .badRequest s
      else if s.mode = .standby then answerOnly .notNow s
      else if 4 ≤ s.transits.length then answerOnly .full s
      else if permitted s k dest.toNat then
        { state :=
            { s with
              transits := s.transits ++ [{ sequence := s.transitCount, dest := dest.toNat, kind := k, payload := bs,
                                           state := .waiting, reading := [] }]
              transitCount := s.transitCount + 1 }
          result := .done, data := [s.transitCount, byteOf (s.transits.length + 1)] }
      else answerOnly .denied s := by
  have decoded : frameKindOfCode (byteOf k.code).toNat = some k := by
    rw [byteOf_toNat (by cases k <;> decide), frameKindOfCode_code]
  simp only [passWork, decoded]

/-- R175: the destination is a node's address and the payload is of the kind's form. -/
def PassFormed (dest : Byte) (k : FrameKind) (bs : List Byte) : Prop :=
  (1 ≤ dest.toNat ∧ dest.toNat ≤ 126) ∧ passForm k bs = true

section
variable {dest : Byte} {k : FrameKind} {bs : List Byte} {s : State}

/-- What R175's first check refuses is what is not of the form. -/
theorem not_passFormed_iff :
    ¬ PassFormed dest k bs ↔ ¬ (1 ≤ dest.toNat ∧ dest.toNat ≤ 126) ∨ passForm k bs = false := by
  rw [PassFormed, not_and_or, Bool.not_eq_true]

theorem PassFormed.not_refused (formed : PassFormed dest k bs) :
    ¬ (¬ (1 ≤ dest.toNat ∧ dest.toNat ≤ 126) ∨ passForm k bs = false) :=
  fun refused => not_passFormed_iff.mpr refused formed

theorem passWork_malformed (bad : ¬ PassFormed dest k bs) :
    passWork (dest :: byteOf k.code :: bs) s = answerOnly .badRequest s := by
  rw [passWork_kind, if_pos (not_passFormed_iff.mp bad)]

theorem passWork_standby (formed : PassFormed dest k bs) (standby : s.mode = .standby) :
    passWork (dest :: byteOf k.code :: bs) s = answerOnly .notNow s := by
  rw [passWork_kind, if_neg formed.not_refused, if_pos standby]

theorem passWork_full (formed : PassFormed dest k bs) (active : s.mode ≠ .standby) (full : 4 ≤ s.transits.length) :
    passWork (dest :: byteOf k.code :: bs) s = answerOnly .full s := by
  rw [passWork_kind, if_neg formed.not_refused, if_neg active, if_pos full]

theorem passWork_denied (formed : PassFormed dest k bs) (active : s.mode ≠ .standby) (room : s.transits.length < 4)
    (denied : ¬ permitted s k dest.toNat = true) :
    passWork (dest :: byteOf k.code :: bs) s = answerOnly .denied s := by
  rw [passWork_kind, if_neg formed.not_refused, if_neg active, if_neg room.not_ge, if_neg denied]

theorem passWork_accepted (formed : PassFormed dest k bs) (active : s.mode ≠ .standby) (room : s.transits.length < 4)
    (permit : permitted s k dest.toNat = true) :
    passWork (dest :: byteOf k.code :: bs) s =
      { state :=
          { s with
            transits := s.transits ++ [{ sequence := s.transitCount, dest := dest.toNat, kind := k, payload := bs,
                                         state := .waiting, reading := [] }]
            transitCount := s.transitCount + 1 }
        result := .done, data := [s.transitCount, byteOf (s.transits.length + 1)] } := by
  rw [passWork_kind, if_neg formed.not_refused, if_neg active, if_neg room.not_ge, if_pos permit]

end

/-- Settles O40: the form and the permit the statement spells out, kind by kind, are those the work of PASS checks; the
request is taken, and each clause is one outcome of that work. -/
theorem passChecksAndAppends : Obligations.PassChecksAndAppends := by
  intro s src dest k bs listening short formed permit request
  have formed_iff : formed ↔ PassFormed dest k bs := by
    cases k with
    | query => exact and_assoc.symm.trans (and_congr_right' passForm_query.symm)
    | drive => exact and_assoc.symm.trans (and_congr_right' passForm_drive.symm)
    | config => exact and_assoc.symm.trans (and_congr_right' passForm_config.symm)
  have permit_iff : permit ↔ permitted s k dest.toNat = true := by
    cases k with
    | query => exact iff_of_true trivial (permitted_query s _)
    | drive => exact permitted_drive.symm
    | config => exact permitted_config.symm
  have fits (code : Byte) : (dest :: code :: bs).length ≤ 120 := Nat.add_le_add_right short 2
  rw [formed_iff, permit_iff]
  exact ⟨fun bad => exec_pass_asked listening (fits _) (passWork_malformed bad),
    fun form standby => exec_pass_asked listening (fits _) (passWork_standby form standby),
    fun form active full => exec_pass_asked listening (fits _) (passWork_full form active full),
    fun form active room no => exec_pass_asked listening (fits _) (passWork_denied form active room no),
    fun form active room may => exec_pass_asked listening (fits _) (passWork_accepted form active room may),
    fun _ unknown => exec_pass_asked listening (fits _) (passWork_unknownKind unknown)⟩

end Sys2Proof.Machine
end

section
/-! PROOFS. COLLECT (R178): the work of COLLECT by the oldest entry, and the request taken by a listening part. -/

namespace Sys2Proof.Machine

/-- The arm of `exec` for COLLECT. -/
theorem exec_collect (dst : Byte) (chars : List Byte) (s : State) :
    exec (.collect dst chars) s = .next (answerRequest 0x71 (dst :: chars) (withoutData collectWork) s) := rfl

/-- A listening part answers COLLECT with what its work gives (R169). -/
theorem exec_collect_asked {s : State} (listening : s.Listening) {src : Byte} {a : Answer} (work : collectWork s = a) :
    exec (.collect s.station (s.asked 0x71 src [])) s = .next (answered 0x71 src a.result a.data a.state) := by
  rw [exec_collect, answerRequest_asked_withoutData listening, work]

/-! ## The work of COLLECT, by the oldest entry -/

theorem collectWork_empty {s : State} (empty : s.transits = []) : collectWork s = answerOnly .empty s := by
  simp only [collectWork, empty]

section
variable {s : State} {e : TransitEntry} {es : List TransitEntry}

theorem collectWork_notReady (oldest : s.transits = e :: es) (pending : e.state = .waiting ∨ e.state = .sent) :
    collectWork s = answerOnly .notReady s := by
  obtain waiting | sent := pending
  · simp only [collectWork, oldest, waiting]
  · simp only [collectWork, oldest, sent]

theorem collectWork_done (oldest : s.transits = e :: es) {r : TransitResult} (ended : e.state = .done r) :
    collectWork s =
      { state := { s with transits := es }, result := .done,
        data := [e.sequence, byteOf e.dest, byteOf e.kind.code, byteOf r.code] ++ if r = .reply then e.reading else [] } := by
  simp only [collectWork, oldest, ended]

end

/-- Settles O41: the request is taken, and each clause is one outcome of its work. -/
theorem collectTakesTheOldest : Obligations.CollectTakesTheOldest := by
  intro s src listening
  exact ⟨fun empty => exec_collect_asked listening (collectWork_empty empty), fun _ _ oldest =>
    ⟨fun pending => exec_collect_asked listening (collectWork_notReady oldest pending),
      fun _ ended => exec_collect_asked listening (collectWork_done oldest ended)⟩⟩

end Sys2Proof.Machine
end

section
/-! PROOFS. FETCH-EVENTS (R193): the work of FETCH-EVENTS with the records' layout (R183) written out, and the request taken
by a listening part. -/

namespace Sys2Proof.Machine

/-- The arm of `exec` for FETCH-EVENTS. -/
theorem exec_fetchEvents (dst : Byte) (chars : List Byte) (s : State) :
    exec (.fetchEvents dst chars) s = .next (answerRequest 0x68 (dst :: chars) (withoutData fetchWork) s) := rfl

/-- A listening part answers FETCH-EVENTS with what its work gives (R169). -/
theorem exec_fetchEvents_asked {s : State} (listening : s.Listening) (src : Byte) :
    exec (.fetchEvents s.station (s.asked 0x68 src [])) s =
      .next (answered 0x68 src (fetchWork s).result (fetchWork s).data (fetchWork s).state) := by
  rw [exec_fetchEvents, answerRequest_asked_withoutData listening]

/-! ## The work of FETCH-EVENTS: its result, its reply and what it removes -/

theorem fetchWork_result (s : State) : (fetchWork s).result = .done := rfl

theorem fetchWork_data (s : State) :
    (fetchWork s).data =
      byteOf (min 8 s.events.length) :: byteOf s.lost :: (s.events.take 8).flatMap fun e =>
        [byteOf e.kind.code, e.subject] ++ halfBytes e.detail ++ wordBytes e.stamp ++ [byteOf e.repeats] := rfl

theorem fetchWork_state (s : State) : (fetchWork s).state = { s with events := s.events.drop 8, lost := 0 } := rfl

/-- Settles O39: the request is taken in every mode, and its work returns the oldest records and removes them. -/
theorem fetchEventsReturnsTheOldest : Obligations.FetchEventsReturnsTheOldest := by
  intro s src listening
  rw [exec_fetchEvents_asked listening, fetchWork_result, fetchWork_data, fetchWork_state]

end Sys2Proof.Machine
end

section
/-! PROOFS. What a command can do, said once: every command is a chain of moves, each one operation of a block. A law that
every move keeps is kept by every step. -/

namespace Sys2Proof.Machine

/-! ## Moves -/

/-- Only the completion's progress, the field port, the store, the trunk port and counts changed: fields that the laws over all
commands do not read. -/
def PlainFrame (s t : State) : Prop :=
  t = { s with work := t.work, draws := t.draws, inReset := t.inReset, warmupLeft := t.warmupLeft, segment := t.segment
               timerOn := t.timerOn, deferredTick := t.deferredTick, cycleCount := t.cycleCount
               contention := t.contention, countdown := t.countdown, transaction := t.transaction
               dispatched := t.dispatched, releaseLine := t.releaseLine, holdCount := t.holdCount
               transitCount := t.transitCount, trunkPort := t.trunkPort, trunkAddress := t.trunkAddress
               trunkRate := t.trunkRate, store := t.store, storeValid := t.storeValid }

/-- The commands of the cycle, which hold the apply point of a tick (R159). -/
def ticks : Instr → Bool
  | .cycleTick => true
  | .deferredTick => true
  | .serviceReleaseAsserted => true
  | _ => false

theorem ticks_iff {c : Instr} : ticks c = true ↔ c = .cycleTick ∨ c = .deferredTick ∨ c = .serviceReleaseAsserted := by
  cases c <;> simp [ticks]

/-- The commands with an apply point: those of the cycle, and RUN (R159). -/
def applies : Instr → Bool
  | .run _ _ => true
  | c => ticks c

/-- The request that sets acknowledgement flags, which no work of a completion follows (R53, R73). -/
def acknowledges : Instr → Bool
  | .acknowledge _ _ => true
  | _ => false

/-- The part, in `s₀`, takes the command `c` as the request of a code with a payload. -/
def TakenAs (row : Byte → List Byte → Instr) (code : Byte) (payload : List Byte) (c : Instr) (s₀ : State) : Prop :=
  ∃ dst chars src, c = row dst chars ∧ s₀.Takes code src payload (dst :: chars)

/-- One operation of a block in the effect of command `c`, taken in `s₀`. -/
inductive Move (c : Instr) (s₀ : State) : State → State → Prop where
  | plain {s t : State} : PlainFrame s t → Move c s₀ s t
  | post (k : EventKind) (n : Nat) (d : Half) (s : State) : Move c s₀ s (post k n d s)
  | judgeHealthy (s : State) : Move c s₀ s (judgeHealthy s)
  | assertReset (s : State) : c = .resetAsserted →
      Move c s₀ s { s with inReset := true, outputs := Outputs.off, save := none }
  | deviceReset (straps : BitVec 7) (rate : Bool) (s : State) : c = .deviceReset straps rate →
      Move c s₀ s (restartRuntime (loadTables (readStraps straps rate s)))
  | applyPoint (s : State) : ticks c = true → Move c s₀ s (applyPoint s)
  | nodes (f : PollEntry → PollEntry) (s : State) : (∀ e, (f e).address = e.address) →
      Move c s₀ s { s with pollList := s.pollList.map f }
  | takePoint (node : Nat) (status : Byte) (p : PointRecord) (s : State) : Move c s₀ s (takePoint node status s p)
  | markSettling (i : Fin 64) (s : State) : Move c s₀ s (markSettling i s)
  | transits (es : List TransitEntry) (s : State) : es.length ≤ s.transits.length ∨ es.length ≤ 4 →
      Move c s₀ s { s with transits := es }
  | doWork (w : Work) (s : State) : acknowledges c = false → Move c s₀ s (doWork w s)
  | expireTop (g : Fin 4) (s : State) : Move c s₀ s (expireTop g s)
  | expireHold (s : State) : c = .holdExpired → Move c s₀ s (expireHold s)
  | enterRun (s : State) : c = .warmupCountEnd → s.mode = .warmup → Move c s₀ s (enterRun s)
  | save (v : Option Save) (s : State) : applies c = false → Move c s₀ s { s with save := v }
  | hold (b : Bool) (s : State) : applies c = false → Move c s₀ s { s with hold := b }
  | discard (s : State) : applies c = false → Move c s₀ s { s with changes := [] }
  | append (t : TableId) (index : Nat) (entries : List (List Byte)) (s : State) : applies c = false →
      Move c s₀ s { s with changes := (takeEntries t index entries s.changes).1 }
  | enterWarmup (s : State) : TakenAs .run 0x58 [] c s₀ → s.mode = .standby → Move c s₀ s (enterWarmup s)
  | enterStandby (s : State) : TakenAs .standby 0x59 [] c s₀ → s.mode ≠ .standby → Move c s₀ s (enterStandby s)
  | restart (s : State) : TakenAs .restart 0x5A [] c s₀ → Move c s₀ s (restartRuntime s)
  | acknowledge (z : Fin 16) (s : State) : acknowledges c = true → Move c s₀ s (acknowledgeZone s z)
  | judgeBeacon (s : State) : Move c s₀ s (judgeBeacon s)
  | push (g : Fin 4) (x : Context) (s : State) : s.groups[g].stack.length < 4 →
      x.stage ≤ 4 ∨ x.stage = s.groups[g].commanded → Move c s₀ s (judgeVent (changeStack g (x :: s.groups[g].stack) s))
  | pop (g : Fin 4) (x : Context) (xs : List Context) (s : State) : s.groups[g].stack = x :: xs →
      Move c s₀ s (judgeVent (changeStack g xs s))
  | fanReset (f : Fin 8) (s : State) : s.fans[f].state = .failed →
      Move c s₀ s (judgeFans (recomputeRunSet (fanGroup s f)
        (changeFan f { s.fans[f] with state := .off, reason := .none } s)))
  | fetch (s : State) : Move c s₀ s { s with events := s.events.drop 8, lost := 0 }

/-- A chain of moves. -/
def Moves (c : Instr) (s₀ : State) : State → State → Prop := Relation.ReflTransGen (Move c s₀)

variable {c : Instr} {s₀ : State}

theorem Moves.refl (s : State) : Moves c s₀ s s := Relation.ReflTransGen.refl

theorem Move.moves {s t : State} (h : Move c s₀ s t) : Moves c s₀ s t := Relation.ReflTransGen.single h

theorem Moves.then {s t u : State} (h : Moves c s₀ s t) (k : Moves c s₀ t u) : Moves c s₀ s u :=
  Relation.ReflTransGen.trans h k

theorem Moves.step {s t u : State} (h : Moves c s₀ s t) (k : Move c s₀ t u) : Moves c s₀ s u :=
  Relation.ReflTransGen.tail h k

/-- A chain keeps what each of its moves keeps. -/
theorem Moves.keep {s t : State} (h : Moves c s₀ s t) {P : State → Prop} (start : P s)
    (move : ∀ u v, Move c s₀ u v → P u → P v) : P t := by
  induction h with
  | refl => exact start
  | tail _ last ih => exact move _ _ last ih

theorem plain_moves {s t : State} (h : PlainFrame s t) : Moves c s₀ s t := (Move.plain h).moves

theorem forEachFree_moves {α : Type} {xs : List α} {f : α → State → State}
    (h : ∀ x s, Moves c s₀ s (f x s)) (s : State) : Moves c s₀ s (forEachFree xs f s) :=
  forEachFree_induction (P := Moves c s₀ s) (fun _ => plain_moves rfl) fun x _ t k => k.then (h x t)

/-! ## The segment and the nodes -/

theorem changeSegment_moves (new : Segment) (s : State) : Moves c s₀ s (changeSegment new s) := by
  have moved : Moves c s₀ s { s with segment := new } := plain_moves rfl
  unfold changeSegment; dsimp only; split
  · exact (moved.step (.post _ _ _ _)).step (.judgeHealthy _)
  · exact moved

theorem updateEntry_moves {f : PollEntry → PollEntry} (keeps : ∀ e, (f e).address = e.address) (a : Nat) (s : State) :
    Moves c s₀ s (updateEntry a f s) :=
  (Move.nodes _ s fun e => by split <;> simp [keeps]).moves

theorem postNode_moves (a : Nat) (old new : NodeState) (miss : Nat) (s : State) :
    Moves c s₀ s (postNode a old new miss s) := by
  unfold postNode; split
  · exact .refl s
  · exact (Move.post _ _ _ s).moves

theorem nodeOutcome_moves (a : Nat) (answered : Bool) (s : State) : Moves c s₀ s (nodeOutcome a answered s) := by
  unfold nodeOutcome; split
  · exact .refl s
  · exact (updateEntry_moves (fun _ => by rfl) a s).then (postNode_moves _ _ _ _ _)

theorem countError_moves (a : Nat) (s : State) : Moves c s₀ s (countError a s) := updateEntry_moves (fun _ => by rfl) a s

theorem becomeReleased_moves (s : State) : Moves c s₀ s (becomeReleased s) := by
  have counts : Moves c s₀ s { s with contention := 0, countdown := 0 } := plain_moves rfl
  exact (counts.then (changeSegment_moves _ _)).step (.post _ _ _ _)

theorem faultSegment_moves (s : State) : Moves c s₀ s (faultSegment s) := by
  have counts : Moves c s₀ s { s with countdown := 2 } := plain_moves rfl
  exact counts.then (changeSegment_moves _ _)

theorem readingArrival_moves (a : Nat) (payload : List Byte) (s : State) : Moves c s₀ s (readingArrival a payload s) := by
  unfold readingArrival
  generalize (readingPoints payload).getD [] = ps
  induction ps generalizing s with
  | nil => exact .refl s
  | cons p ps ih => exact (Move.takePoint _ _ p s).moves.then (ih _)

/-! ## Transit -/

theorem takeWaiting_length (s : State) (es : List TransitEntry) : (takeWaiting s es).1.length = es.length := by
  rcases takeWaiting_cases s es with ⟨-, eq⟩ | ⟨before, e, after, rfl, -, -, -, eq⟩
  · simp [eq]
  · simp [eq]

theorem dispatchNext_moves (s : State) : Moves c s₀ s (dispatchNext s) := by
  have walked : Moves c s₀ s { s with transits := (takeWaiting s s.transits).1 } :=
    (Move.transits _ s (.inl (takeWaiting_length s _).le)).moves
  unfold dispatchNext; dsimp only; split
  · exact plain_moves rfl
  · split
    · exact walked.step (.plain rfl)
    · exact walked.step (.plain rfl)

theorem endTransit_moves (r : TransitResult) (reading : List Byte) (s : State) : Moves c s₀ s (endTransit r reading s) := by
  have ended : Moves c s₀ s { s with transaction := none, transits := s.transits.map (completedEntry r reading) } :=
    (plain_moves (t := { s with transaction := none }) rfl).step (.transits _ _ (.inl (by simp)))
  unfold endTransit marksOf
  split
  · split
    · exact ended.then (forEachFree_moves (fun i t => (Move.markSettling i t).moves) _)
    · exact ended
  · exact ended

theorem afterTransit_moves (s : State) : Moves c s₀ s (afterTransit s) := by
  unfold afterTransit; split
  · exact .refl s
  · exact dispatchNext_moves s

/-! ## The completion's work and the walk -/

section
variable (works : acknowledges c = false)
include works

theorem runWork_moves (ws : List Work) (s : State) : Moves c s₀ s (runWork ws s) :=
  runWork_induction (P := Moves c s₀ s) (fun _ _ h => h.step (.plain rfl)) (fun w t _ h => h.step (.doWork w t works)) ws s
    (.refl s)

theorem surveyCompletion_moves (b : Bool) (s : State) : Moves c s₀ s (surveyCompletion b s) := by
  have drawn := completionWork_drawFrame b { s with cycleCount := s.cycleCount + 1 }
  have laid : Moves c s₀ s (completionWork b { s with cycleCount := s.cycleCount + 1 }).2 := by
    rw [drawn]; exact plain_moves rfl
  exact laid.then (runWork_moves works _ _)

theorem pollAfter_moves (a : Nat) (s : State) : Moves c s₀ s (pollAfter a s) := by
  unfold pollAfter; split
  · exact plain_moves rfl
  · exact (plain_moves (t := { s with transaction := none }) rfl).then (surveyCompletion_moves works _ _)

theorem pollFailed_moves (t : Transaction) (a : Nat) (s : State) : Moves c s₀ s (pollFailed t a s) := by
  unfold pollFailed; split
  · exact plain_moves rfl
  · exact (nodeOutcome_moves a false s).then (pollAfter_moves works _ _)

theorem attemptFailed_moves (t : Transaction) (s : State) : Moves c s₀ s (attemptFailed t s) := by
  unfold attemptFailed; split
  · exact (countError_moves _ s).then (pollFailed_moves works _ _ _)
  · exact (endTransit_moves _ _ s).then (afterTransit_moves _)

theorem attemptAnswered_moves (t : Transaction) (reply : Frame) (s : State) :
    Moves c s₀ s (attemptAnswered t reply s) := by
  unfold attemptAnswered; split
  · exact ((nodeOutcome_moves _ true s).then (readingArrival_moves _ _ _)).then (pollAfter_moves works _ _)
  · exact (endTransit_moves _ _ s).then (afterTransit_moves _)

theorem attemptContended_moves (t : Transaction) (s : State) : Moves c s₀ s (attemptContended t s) := by
  have counted : Moves c s₀ s { s with contention := s.contention + 1 } := plain_moves rfl
  unfold attemptContended; dsimp only; split
  · split
    · have cleared : Moves c s₀ s { s with contention := s.contention + 1, transaction := none } := plain_moves rfl
      exact ((cleared.then (nodeOutcome_moves _ false _)).then (faultSegment_moves _)).then
        (surveyCompletion_moves works _ _)
    · exact (counted.then (endTransit_moves _ _ _)).then (faultSegment_moves _)
  · split
    · exact counted.then (pollFailed_moves works _ _ _)
    · exact (counted.then (endTransit_moves _ _ _)).then (afterTransit_moves _)

theorem endReception_moves (chars : List Byte) (t : Transaction) (s : State) : Moves c s₀ s (endReception chars t s) := by
  unfold endReception; split
  · exact .refl s
  · split
    · exact attemptAnswered_moves works _ _ s
    · exact attemptFailed_moves works _ s
  · exact attemptFailed_moves works _ s

end

theorem toPhase_moves (p : Phase) (t : Transaction) (s : State) : Moves c s₀ s (toPhase p t s) := plain_moves rfl

theorem inPhase_moves {f : Transaction → State → State} (h : ∀ t s, Moves c s₀ s (f t s)) (p : Phase) (s : State) :
    Moves c s₀ s (inPhase p f s) := by
  unfold inPhase; split
  · split
    · exact h _ s
    · exact .refl s
  · exact .refl s

/-! ## Ticks and the release line -/

section
variable (due : ticks c = true)
include due

theorem acknowledges_of_ticks : acknowledges c = false := by
  rcases ticks_iff.mp due with rfl | rfl | rfl <;> rfl

theorem startCycle_moves (s : State) : Moves c s₀ s (startCycle s) := by
  have polling : Moves c s₀ s { s with segment := .polling, deferredTick := false } := plain_moves rfl
  exact (polling.step (.applyPoint _ due)).then (pollAfter_moves (acknowledges_of_ticks due) _ _)

theorem emptyCycle_moves (s : State) : Moves c s₀ s (emptyCycle s) :=
  (Move.applyPoint s due).moves.then (surveyCompletion_moves (acknowledges_of_ticks due) _ _)

theorem takeTick_moves (s : State) : Moves c s₀ s (takeTick s) := by
  unfold takeTick overrun
  split
  · exact .refl s
  split
  · exact (Move.post _ _ _ s).moves
  split
  · split
    · exact plain_moves rfl
    · exact startCycle_moves due s
  · exact emptyCycle_moves due s
  · split
    · exact emptyCycle_moves due s
    · exact (changeSegment_moves _ s).then (startCycle_moves due _)
  · exact startCycle_moves due s

theorem takeHeldTick_moves (s : State) : Moves c s₀ s (takeHeldTick s) := by
  unfold takeHeldTick; split
  · exact (plain_moves (t := { s with deferredTick := false }) rfl).then (takeTick_moves due _)
  · exact .refl s

theorem releaseSegment_moves (s : State) : Moves c s₀ s (releaseSegment s) := by
  have works : acknowledges c = false := acknowledges_of_ticks due
  have cleared : Moves c s₀ s { s with transaction := none } := plain_moves rfl
  unfold releaseSegment; dsimp only
  split
  · exact (Move.post _ _ _ s).moves
  split
  · split
    · exact ((cleared.then (nodeOutcome_moves _ false _)).then (becomeReleased_moves _)).then
        (surveyCompletion_moves works _ _)
    · exact ((endTransit_moves _ _ s).then (becomeReleased_moves _)).then (takeHeldTick_moves due _)
  · split
    · exact (becomeReleased_moves s).then (surveyCompletion_moves works _ _)
    · exact ((becomeReleased_moves s).then (runWork_moves works _ _)).then (takeHeldTick_moves due _)

end

/-! ## Requests -/

/-- A frame the port takes as a row's request is one of the row's code, received for the part (R168, R169). -/
theorem taken_of_takes {s : State} {code : Byte} {chars : List Byte} {f : Frame} (h : takes s code chars = some f) :
    s.Takes code f.src f.payload chars ∧ f.kind = code := by
  unfold takes at h
  cases k : hears s chars with
  | none => rw [k] at h; cases h
  | some f' =>
    rw [k] at h; dsimp only at h
    split at h
    · rename_i kind
      obtain rfl : f' = f := by simpa using h
      obtain ⟨listening, received, dst⟩ := (hears_iff s chars f').mp k
      refine ⟨⟨listening, received.trans ?_⟩, kind⟩
      cases f'; dsimp only at *; subst kind dst; rfl
    · cases h

/-- A request row's command changes nothing, or the port takes it as the row's request and answers it. -/
theorem answerRequest_cases (code : Byte) (chars : List Byte) (work : List Byte → State → Answer) (s : State) :
    (answerRequest code chars work s = s ∧ answerAndResume code chars work s = s) ∨
      ∃ src payload, s.Takes code src payload chars ∧
        answerRequest code chars work s =
          answered code src (work payload s).result (work payload s).data (work payload s).state ∧
        answerAndResume code chars work s =
          resume (answered code src (work payload s).result (work payload s).data (work payload s).state) := by
  cases h : takes s code chars with
  | none => exact .inl (answerRequest_ignored h work)
  | some f =>
    have taken := (taken_of_takes h).1
    exact .inr ⟨f.src, f.payload, taken, answerRequest_taken taken work, answerAndResume_taken taken work⟩

theorem answered_moves {code src : Byte} {r : Result} {data : List Byte} {s t : State} (h : Moves c s₀ s t) :
    Moves c s₀ s (answered code src r data t) := h.step (.plain rfl)

theorem answerRequest_moves {code : Byte} {chars : List Byte} {work : List Byte → State → Answer} {s : State}
    (h : ∀ src payload, s.Takes code src payload chars → Moves c s₀ s (work payload s).state) :
    Moves c s₀ s (answerRequest code chars work s) := by
  rcases answerRequest_cases code chars work s with ⟨eq, -⟩ | ⟨src, payload, taken, eq, -⟩
  · rw [eq]; exact .refl s
  · rw [eq]; exact answered_moves (h src payload taken)

theorem answerAndResume_moves (works : acknowledges c = false) {code : Byte} {chars : List Byte}
    {work : List Byte → State → Answer} {s : State} (h : ∀ payload, Moves c s₀ s (work payload s).state) :
    Moves c s₀ s (answerAndResume code chars work s) := by
  rcases answerRequest_cases code chars work s with ⟨-, eq⟩ | ⟨src, payload, -, -, eq⟩
  · rw [eq]; exact .refl s
  · rw [eq]; exact (answered_moves (h payload)).then (runWork_moves works _ _)

/-- A request without data does its work on an empty payload, and else changes nothing. -/
theorem withoutData_state (work : State → Answer) (payload : List Byte) (s : State) :
    (payload = [] ∧ withoutData work payload s = work s) ∨ withoutData work payload s = answerOnly .badRequest s := by
  cases payload with
  | nil => exact .inl ⟨rfl, rfl⟩
  | cons => exact .inr rfl

/-- A request with one index does its work on a record, and else changes nothing. -/
theorem withIndex_state {n : Nat} (work : Fin n → State → Answer) (payload : List Byte) (s : State) :
    (∃ i, withIndex n work payload s = work i s) ∨ (withIndex n work payload s).state = s := by
  unfold withIndex; split
  · split
    · exact .inl ⟨_, rfl⟩
    · exact .inr rfl
  · exact .inr rfl

theorem withIndex_moves {n : Nat} {work : Fin n → State → Answer} {s : State}
    (h : ∀ i, Moves c s₀ s (work i s).state) (payload : List Byte) : Moves c s₀ s (withIndex n work payload s).state := by
  rcases withIndex_state work payload s with ⟨i, eq⟩ | eq
  · rw [eq]; exact h i
  · rw [eq]; exact .refl s

/-- The work of a read leaves the state. -/
theorem withIndex_readOnly {n : Nat} (data : State → Fin n → List Byte) (payload : List Byte) (s : State) :
    (withIndex n (fun i t => readOnly (data t i) t) payload s).state = s := by
  rcases withIndex_state (fun i t => readOnly (data t i) t) payload s with ⟨i, eq⟩ | eq
  · rw [eq]; rfl
  · exact eq

theorem readNodeWork_state (payload : List Byte) (s : State) : (readNodeWork payload s).state = s := by
  unfold readNodeWork; split
  · split <;> rfl
  · rfl

theorem readTableWork_state (payload : List Byte) (s : State) : (readTableWork payload s).state = s := by
  unfold readTableWork
  repeat' split
  all_goals rfl

theorem writeTableWork_state (payload : List Byte) (s : State) :
    (writeTableWork payload s).state = s ∨
      ∃ t start n entries, (writeTableWork payload s).state =
        (appendBlock t start n entries s).state := by
  unfold writeTableWork; dsimp only
  repeat' split
  all_goals first | exact .inl rfl | exact .inr ⟨_, _, _, _, rfl⟩

theorem appendBlock_state (t : TableId) (start n : Nat) (entries : List (List Byte)) (s : State) :
    (appendBlock t start n entries s).state = { s with changes := (takeEntries t start entries s.changes).1 } := by
  unfold appendBlock; dsimp only; split <;> rfl

theorem holdWork_state (payload : List Byte) (s : State) :
    (holdWork payload s).state = s ∨ ∃ b, (holdWork payload s).state = { s with hold := b, holdCount := 0 } := by
  unfold holdWork; split
  · split
    · exact .inr ⟨_, rfl⟩
    · split
      · exact .inr ⟨_, rfl⟩
      · exact .inl rfl
  · exact .inl rfl

theorem acknowledgeWork_moves (ack : acknowledges c = true) (payload : List Byte) (s : State) :
    Moves c s₀ s (acknowledgeWork payload s).state := by
  have all : ∀ (zs : List (Fin 16)) (t : State), Moves c s₀ t (zs.foldl acknowledgeZone t) := by
    intro zs
    induction zs with
    | nil => exact .refl
    | cons z zs ih => exact fun t => (Move.acknowledge z t ack).moves.then (ih _)
  unfold acknowledgeWork; split
  · split
    · exact (all _ s).step (.judgeBeacon _)
    · split
      · exact (Move.acknowledge _ s ack).moves.step (.judgeBeacon _)
      · exact .refl s
  · exact .refl s

theorem pushWork_moves (payload : List Byte) (s : State) : Moves c s₀ s (pushWork payload s).state := by
  unfold pushWork; split
  · split
    · exact .refl s
    · rename_i g _ stage _ _ _ _ _ kind _
      split
      · exact .refl s
      · rename_i stage_le
        split
        · exact .refl s
        · dsimp only; split
          · exact .refl s
          · rename_i room
            refine (Move.push _ _ s (Nat.lt_of_not_le room) ?_).moves
            cases kind with
            | force => exact .inl (by simpa [contextStage] using stage_le)
            | hold => exact .inr rfl
            | manual => exact .inl (Nat.zero_le 4)
  · exact .refl s

theorem popWork_moves (g : Fin 4) (s : State) : Moves c s₀ s (popWork g s).state := by
  unfold popWork; split
  · exact .refl s
  · rename_i h; exact (Move.pop g _ _ s h).moves

theorem fanResetWork_moves (f : Fin 8) (s : State) : Moves c s₀ s (fanResetWork f s).state := by
  unfold fanResetWork answerOnly; dsimp only; split
  · rename_i h; exact (Move.fanReset f s h).moves
  · exact .refl s

theorem passWork_moves (payload : List Byte) (s : State) : Moves c s₀ s (passWork payload s).state := by
  unfold passWork; split
  · split
    · exact .refl s
    · split
      · exact .refl s
      · split
        · exact .refl s
        · split
          · exact .refl s
          · rename_i room
            split
            · have appended : ∀ e, Moves c s₀ s { s with transits := s.transits ++ [e] } := fun e =>
                (Move.transits _ s (.inr (by rw [List.length_append, List.length_singleton]; omega))).moves
              exact (appended _).then (plain_moves rfl)
            · exact .refl s
  · exact .refl s

theorem collectWork_moves (s : State) : Moves c s₀ s (collectWork s).state := by
  unfold collectWork; split
  · exact .refl s
  · split
    · rename_i queue _ _ _; exact (Move.transits _ s (.inl (by rw [queue]; exact Nat.le_succ _))).moves
    · exact .refl s

end Sys2Proof.Machine
end

section
/-! PROOFS. Every command answers a next state by a chain of moves (O2), and what the moves that change the mode leave of the
state. -/

namespace Sys2Proof.Machine

/-! ## Every command is a chain of moves -/

theorem live_moves {c : Instr} {s₀ s t : State} (h : Moves c s₀ s t) : ∃ u, live s t = .next u ∧ Moves c s₀ s u := by
  refine ⟨_, rfl, ?_⟩
  split
  · exact .refl s
  · exact h

/-- The count that a completion waits for, ended by a command: its effect, and the rest of the work. -/
theorem counted_moves {c : Instr} {s : State} (works : acknowledges c = false) {u : State}
    (h : Moves c s s u) (ws : List Work) : Moves c s s (runWork ws u) := h.then (runWork_moves works ws u)

theorem waitingCount_eq_some {s : State} {w : Work} {ws : List Work} :
    waitingCount s = some (w, ws) ↔ s.work = w :: ws ∧ endsCount s w = true := by
  unfold waitingCount
  cases s.work with
  | nil => simp
  | cons v vs =>
    dsimp only; split
    · simp only [Option.some.injEq, Prod.mk.injEq, List.cons.injEq]
      constructor
      · rintro ⟨rfl, rfl⟩; exact ⟨⟨rfl, rfl⟩, ‹_›⟩
      · rintro ⟨⟨rfl, rfl⟩, -⟩; exact ⟨rfl, rfl⟩
    · constructor
      · rintro ⟨⟩
      · rintro ⟨h, ends⟩
        obtain ⟨rfl, rfl⟩ := List.cons.inj h
        exact absurd ends ‹_›

/-- Every command answers a next state, by a chain of moves. -/
theorem exec_moves (c : Instr) (s : State) : ∃ t, exec c s = .next t ∧ Moves c s s t := by
  cases c with
  | resetAsserted => exact ⟨_, rfl, (Move.assertReset s rfl).moves⟩
  | deviceReset straps rate => exact ⟨_, rfl, (Move.deviceReset straps rate s rfl).moves⟩
  | cycleTick =>
    refine live_moves ?_
    split
    · exact takeTick_moves (by rfl) s
    · exact .refl s
  | deferredTick =>
    refine live_moves ?_
    split
    · exact takeHeldTick_moves (by rfl) s
    · exact .refl s
  | frameTransmitted =>
    exact live_moves (inPhase_moves
      (fun t u => (plain_moves (t := { u with contention := 0 }) rfl).then (toPhase_moves .awaiting t _)) _ s)
  | contentionMismatch => exact live_moves (inPhase_moves (attemptContended_moves (by rfl)) _ s)
  | fieldReceptionEnd chars => exact live_moves (inPhase_moves (endReception_moves (by rfl) chars) _ s)
  | framingError => exact live_moves (inPhase_moves (attemptFailed_moves (by rfl)) _ s)
  | replyTimeout => exact live_moves (inPhase_moves (attemptFailed_moves (by rfl)) _ s)
  | nextAttempt => exact live_moves (inPhase_moves (toPhase_moves _) _ s)
  | overrideExpired =>
    refine live_moves ?_
    split
    · exact counted_moves (by rfl) (Move.expireTop _ s).moves _
    · exact .refl s
  | proofTimeout =>
    refine live_moves ?_
    split
    · exact counted_moves (by rfl) (Move.doWork (.supervise _) s (by rfl)).moves _
    · exact .refl s
  | holdExpired =>
    refine live_moves ?_
    split
    · exact counted_moves (by rfl) (Move.expireHold s rfl).moves _
    · exact .refl s
  | warmupCountEnd =>
    refine live_moves ?_
    split
    · rename_i ws waits
      have warm : s.mode = .warmup := by
        have := (waitingCount_eq_some.mp waits).2
        simp only [endsCount, Bool.and_eq_true, beq_iff_eq] at this
        exact this.1
      exact counted_moves (by rfl) (Move.enterRun s rfl warm).moves _
    · exact .refl s
  | faultedCountdownEnd =>
    refine live_moves ?_
    split
    · have counts : Moves .faultedCountdownEnd s s { s with countdown := 0, contention := 0 } := plain_moves rfl
      exact counted_moves (by rfl) (counts.then (changeSegment_moves _ _)) _
    · exact .refl s
  | serviceReleaseAsserted =>
    have asserted : Moves .serviceReleaseAsserted s s { s with releaseLine := true } := plain_moves rfl
    refine ⟨_, rfl, ?_⟩
    split
    · exact asserted.then (releaseSegment_moves (by rfl) _)
    · exact asserted
  | serviceReleaseDeasserted =>
    have deasserted : Moves .serviceReleaseDeasserted s s { s with releaseLine := false } := plain_moves rfl
    refine ⟨_, rfl, ?_⟩
    split
    · exact deasserted.step (.post _ _ _ _)
    · exact deasserted
  | saveCompletion cells =>
    refine live_moves ?_
    split
    · split
      · have stored : ∀ st ok, Moves (.saveCompletion cells) s s { s with store := st, storeValid := ok } :=
          fun _ _ => plain_moves rfl
        exact ((((stored _ _).step (.post _ _ _ _)).step (.save none _ (by rfl)))).step (.judgeHealthy _)
      · exact .refl s
    · exact .refl s
  | trunkFrameDropped => exact ⟨s, rfl, .refl s⟩
  | unknownRequest dst src chars =>
    refine ⟨_, rfl, ?_⟩
    unfold answerUnknown
    split
    · split
      · exact .refl s
      · exact plain_moves rfl
    · exact .refl s
  | replySent straps rate =>
    refine live_moves ?_
    split
    · exact plain_moves rfl
    · exact plain_moves rfl
    · exact .refl s
  | status dst chars =>
    refine ⟨_, rfl, answerRequest_moves fun _ payload _ => ?_⟩
    rcases withoutData_state (fun t => readOnly (statusData t) t) payload s with ⟨-, eq⟩ | eq
    · rw [eq]; exact .refl s
    · rw [eq]; exact .refl s
  | readChannel dst chars =>
    exact ⟨_, rfl, answerRequest_moves fun _ payload _ => by rw [withIndex_readOnly channelData]; exact .refl s⟩
  | readZone dst chars =>
    exact ⟨_, rfl, answerRequest_moves fun _ payload _ => by rw [withIndex_readOnly zoneData]; exact .refl s⟩
  | readGroup dst chars =>
    exact ⟨_, rfl, answerRequest_moves fun _ payload _ => by rw [withIndex_readOnly groupData]; exact .refl s⟩
  | readFan dst chars =>
    exact ⟨_, rfl, answerRequest_moves fun _ payload _ => by rw [withIndex_readOnly fanData]; exact .refl s⟩
  | readNode dst chars =>
    exact ⟨_, rfl, answerRequest_moves fun _ payload _ => by rw [readNodeWork_state]; exact .refl s⟩
  | readTable dst chars =>
    exact ⟨_, rfl, answerRequest_moves fun _ payload _ => by rw [readTableWork_state]; exact .refl s⟩
  | writeTable dst chars =>
    refine ⟨_, rfl, answerRequest_moves fun _ payload _ => ?_⟩
    rcases writeTableWork_state payload s with eq | ⟨t, start, n, entries, eq⟩
    · rw [eq]; exact .refl s
    · rw [eq, appendBlock_state]; exact (Move.append t start entries s (by rfl)).moves
  | hold dst chars =>
    refine ⟨_, rfl, answerAndResume_moves (by rfl) fun payload => ?_⟩
    rcases holdWork_state payload s with eq | ⟨b, eq⟩
    · rw [eq]; exact .refl s
    · rw [eq]; exact (Move.hold b s (by rfl)).moves.then (plain_moves rfl)
  | discard dst chars =>
    refine ⟨_, rfl, answerRequest_moves fun _ payload _ => ?_⟩
    rcases withoutData_state discardWork payload s with ⟨-, eq⟩ | eq
    · rw [eq]; exact (Move.discard s (by rfl)).moves
    · rw [eq]; exact .refl s
  | save dst chars =>
    refine ⟨_, rfl, answerRequest_moves fun _ payload _ => ?_⟩
    rcases withoutData_state saveWork payload s with ⟨-, eq⟩ | eq
    · rw [eq]; unfold saveWork; split
      · exact .refl s
      · exact (Move.save _ s (by rfl)).moves
    · rw [eq]; exact .refl s
  | run dst chars =>
    refine ⟨_, rfl, answerRequest_moves fun src payload taken => ?_⟩
    rcases withoutData_state runRequestWork payload s with ⟨rfl, eq⟩ | eq
    · rw [eq]; unfold runRequestWork answerOnly; dsimp only; split
      · exact (Move.enterWarmup s ⟨dst, chars, src, rfl, taken⟩ ‹_›).moves
      · exact .refl s
    · rw [eq]; exact .refl s
  | standby dst chars =>
    refine ⟨_, rfl, answerRequest_moves fun src payload taken => ?_⟩
    rcases withoutData_state standbyWork payload s with ⟨rfl, eq⟩ | eq
    · rw [eq]; unfold standbyWork answerOnly; dsimp only; split
      · exact .refl s
      · exact (Move.enterStandby s ⟨dst, chars, src, rfl, taken⟩ ‹_›).moves
    · rw [eq]; exact .refl s
  | restart dst chars =>
    refine ⟨_, rfl, ?_⟩
    split
    · rename_i f took
      have taken := (taken_of_takes took).1
      rcases withoutData_state restartWork f.payload s with ⟨none, eq⟩ | eq
      · rw [none] at taken
        rw [eq]; unfold restartWork; split
        · exact plain_moves rfl
        · exact (Move.restart s ⟨dst, chars, f.src, rfl, taken⟩).moves.then (plain_moves rfl)
      · rw [eq]; exact plain_moves rfl
    · exact .refl s
  | acknowledge dst chars =>
    exact ⟨_, rfl, answerRequest_moves fun _ payload _ => acknowledgeWork_moves (by rfl) payload s⟩
  | pushOverride dst chars => exact ⟨_, rfl, answerAndResume_moves (by rfl) fun payload => pushWork_moves payload s⟩
  | popOverride dst chars =>
    exact ⟨_, rfl, answerAndResume_moves (by rfl) fun payload => withIndex_moves (fun g => popWork_moves g s) payload⟩
  | fanReset dst chars =>
    exact ⟨_, rfl, answerAndResume_moves (by rfl) fun payload => withIndex_moves (fun f => fanResetWork_moves f s) payload⟩
  | fetchEvents dst chars =>
    refine ⟨_, rfl, answerRequest_moves fun _ payload _ => ?_⟩
    rcases withoutData_state fetchWork payload s with ⟨-, eq⟩ | eq
    · rw [eq]; exact (Move.fetch s).moves
    · rw [eq]; exact .refl s
  | pass dst chars => exact ⟨_, rfl, answerRequest_moves fun _ payload _ => passWork_moves payload s⟩
  | collect dst chars =>
    refine ⟨_, rfl, answerRequest_moves fun _ payload _ => ?_⟩
    rcases withoutData_state collectWork payload s with ⟨-, eq⟩ | eq
    · rw [eq]; exact collectWork_moves s
    · rw [eq]; exact .refl s
  | openingMarkReceived => exact live_moves (inPhase_moves (toPhase_moves _) _ s)
  | checkValueErased =>
    refine live_moves ?_
    split
    · split
      · rename_i v _ _
        exact (Move.save (some { v with phase := .erased }) s rfl).moves.then (plain_moves rfl)
      · exact .refl s
    · exact .refl s
  | checkValueWritten =>
    refine live_moves ?_
    split
    · split
      · rename_i v _ _
        exact (Move.save (some { v with phase := .written }) s rfl).moves.then (plain_moves rfl)
      · exact .refl s
    · exact .refl s

/-- What holds before a command and is kept by each of its moves holds after it. -/
theorem exec_keeps {c : Instr} {s t : State} {P : State → Prop} (h : exec c s = .next t) (start : P s)
    (move : ∀ u v, Move c s u v → P u → P v) : P t := by
  obtain ⟨t', eq, moves⟩ := exec_moves c s
  obtain rfl : t' = t := by rw [h] at eq; cases eq; rfl
  exact moves.keep start move

/-- A law that does not read the queue and that every move keeps is kept by every step. -/
theorem step_keeps {P : State → Prop} (queue : ∀ s cs, P s → P (s.withPending cs))
    (move : ∀ c s₀ s t, Move c s₀ s t → P s → P t) {s t : State} (h : step s = .next t) (start : P s) : P t := by
  unfold step at h
  split at h
  · cases h; exact start
  · exact exec_keeps h (queue s _ start) fun u v => move _ _ u v

end Sys2Proof.Machine
end

section
/-! PROOFS. What the moves leave of the state, and with it O2, O57 and O58: the queue stays, the tables change at apply points
only, and the mode changes in four ways only. -/

namespace Sys2Proof.Machine

/-! ## Frames of the entries into a mode -/

theorem GroupFrame.mode {s t : State} (h : GroupFrame s t) : t.mode = s.mode := by rw [h]
theorem GroupFrame.tables {s t : State} (h : GroupFrame s t) : t.tables = s.tables := by rw [h]
theorem ZoneFrame.tables {s t : State} (h : ZoneFrame s t) : t.tables = s.tables := by rw [h]
theorem ZoneFrame.mode {s t : State} (h : ZoneFrame s t) : t.mode = s.mode := by rw [h]
theorem ApplyFrame.mode {s t : State} (h : ApplyFrame s t) : t.mode = s.mode := by rw [h]

/-- Only the segment's state and HEALTHY, with the queue of events, changed. -/
def SegmentFrame (s t : State) : Prop :=
  t = { s with segment := t.segment, outputs := t.outputs, events := t.events, lost := t.lost }

theorem changeSegment_segment (new : Segment) (s : State) : (changeSegment new s).segment = new := by
  unfold changeSegment; dsimp only; split <;> rfl

theorem changeSegment_frame (new : Segment) (s : State) : SegmentFrame s (changeSegment new s) := by
  unfold changeSegment SegmentFrame; dsimp only; split <;> rfl

theorem warmupSegment_frame (s : State) : SegmentFrame s (warmupSegment s) := by
  have moved := changeSegment_frame
  unfold warmupSegment; split
  · have h := moved .released s
    unfold SegmentFrame at h ⊢; rw [h]; rfl
  · exact moved .waiting s

/-- The end of the warmup count moves the mode and its count, and what the groups' recomputation moves (R186). -/
theorem enterRun_frame (s : State) :
    enterRun s = { s with mode := .run, warmupLeft := 0, groups := (enterRun s).groups, fans := (enterRun s).fans
                          draws := (enterRun s).draws, events := (enterRun s).events, lost := (enterRun s).lost
                          outputs := (enterRun s).outputs } := by
  have regrouped : GroupFrame (changeMode .run { s with warmupLeft := 0 }) (enterRun s) :=
    (regroup_groupFrame _).trans (judgeAll_groupFrame _)
  unfold GroupFrame at regrouped
  generalize enterRun s = t at regrouped
  rw [regrouped]; rfl

/-- The entry into WARMUP from what the apply point leaves (R185). -/
theorem enterWarmup_frame (s : State) :
    enterWarmup s = { applyPoint s with
      mode := .warmup, warmupLeft := (applyPoint s).tables.device.warmupCount, timerOn := true
      zones := (warmupZones (applyPoint s)).zones, segment := (enterWarmup s).segment, groups := (enterWarmup s).groups
      fans := (enterWarmup s).fans, draws := (enterWarmup s).draws, events := (enterWarmup s).events
      lost := (enterWarmup s).lost, outputs := (enterWarmup s).outputs } := by
  have regrouped := regroup_groupFrame (warmupZones (changeMode .warmup
    { applyPoint s with warmupLeft := (applyPoint s).tables.device.warmupCount }))
  have segment := warmupSegment_frame (regroup (warmupZones (changeMode .warmup
    { applyPoint s with warmupLeft := (applyPoint s).tables.device.warmupCount })))
  have eq : enterWarmup s = judgeAll { warmupSegment (regroup (warmupZones (changeMode .warmup
    { applyPoint s with warmupLeft := (applyPoint s).tables.device.warmupCount }))) with timerOn := true } := rfl
  unfold SegmentFrame at segment
  unfold GroupFrame at regrouped
  generalize warmupSegment _ = v at *
  generalize regroup _ = u at *
  rw [eq, segment, regrouped]; rfl

/-- The entry into STANDBY moves no table, list, store or count of cycles (R187). -/
theorem enterStandby_frame (s : State) :
    enterStandby s = { s with
      mode := .standby, warmupLeft := 0, segment := .idle, transaction := none, timerOn := false, deferredTick := false
      countdown := 0, contention := 0, work := [], pollList := s.pollList.map standbyNode
      transits := s.transits.map cancelEntry, channels := restartedChannels s.tables
      zones := Vector.replicate 16 (ZoneRecord.cleared .inactive), groups := (enterStandby s).groups
      fans := (enterStandby s).fans, draws := (enterStandby s).draws, events := (enterStandby s).events
      lost := (enterStandby s).lost, outputs := (enterStandby s).outputs } := by
  have port : standbyPort (changeMode .standby { s with warmupLeft := 0 }) = { s with
      mode := .standby, warmupLeft := 0, segment := .idle, transaction := none, timerOn := false, deferredTick := false
      countdown := 0, contention := 0, work := [], pollList := s.pollList.map standbyNode
      transits := s.transits.map cancelEntry
      events := (standbyPort (changeMode .standby { s with warmupLeft := 0 })).events
      lost := (standbyPort (changeMode .standby { s with warmupLeft := 0 })).lost
      outputs := (standbyPort (changeMode .standby { s with warmupLeft := 0 })).outputs } := by
    unfold standbyPort changeSegment; dsimp only; split <;> rfl
  have regrouped : ∀ u : State, GroupFrame u (judgeAll (forEachGroup (List.finRange 4) recomputeRunSet u)) := fun u =>
    (forEachGroup_groupFrame recomputeRunSet_groupFrame u).trans (judgeAll_groupFrame _)
  have eq := regrouped { standbyPort (changeMode .standby { s with warmupLeft := 0 }) with
    channels := restartedChannels (standbyPort (changeMode .standby { s with warmupLeft := 0 })).tables
    zones := Vector.replicate 16 (ZoneRecord.cleared .inactive)
    groups := Vector.ofFn fun g => standbyGroup (standbyPort (changeMode .standby { s with warmupLeft := 0 })).groups[g]
    fans := Vector.ofFn fun f => standbyFan (standbyPort (changeMode .standby { s with warmupLeft := 0 })).fans[f] }
  change GroupFrame _ (enterStandby s) at eq
  unfold GroupFrame at eq
  generalize enterStandby s = t at *
  generalize standbyPort _ = v at *
  rw [eq, port]

/-! ## Frames of the other operations -/

/-- The fields an apply point reads before it takes the list. -/
def ListKept (s t : State) : Prop := t.hold = s.hold ∧ t.save = s.save ∧ t.changes = s.changes

theorem WorkFrame.listKept {s t : State} (h : WorkFrame s t) : ListKept s t := by rw [h]; exact ⟨rfl, rfl, rfl⟩

/-- From `s` to `t` the queue, the mode, the tables, the chains and the addresses of the poll list stay, and of a command with an
apply point so does what that reads. -/
structure RecordFrame (c : Instr) (s t : State) : Prop where
  pending : t.pending = s.pending
  mode : t.mode = s.mode
  tables : t.tables = s.tables
  chains : t.chains = s.chains
  addresses : t.pollList.map (·.address) = s.pollList.map (·.address)
  list : applies c = true → ListKept s t

theorem WorkFrame.record {s t : State} (h : WorkFrame s t) (c : Instr) : RecordFrame c s t := by
  have list := h.listKept
  constructor
  · rw [h]
  · rw [h]
  · rw [h]
  · rw [h]
  · rw [h]
  · exact fun _ => list

theorem takeSample_frame (i : Fin 64) (raw : Nat) (warm fault : Bool) (s : State) :
    takeSample i raw warm fault s = { s with
      channels := (takeSample i raw warm fault s).channels, events := (takeSample i raw warm fault s).events
      lost := (takeSample i raw warm fault s).lost } := by
  unfold takeSample postHealth; dsimp only
  split
  · rfl
  · split <;> rfl

theorem takePoint_frame (node : Nat) (status : Byte) (p : PointRecord) (s : State) :
    takePoint node status s p = { s with
      channels := (takePoint node status s p).channels, events := (takePoint node status s p).events
      lost := (takePoint node status s p).lost } := by
  unfold takePoint; split
  · exact takeSample_frame _ _ _ _ s
  · rfl

theorem markSettling_frame (i : Fin 64) (s : State) :
    markSettling i s = { s with
      channels := (markSettling i s).channels, events := (markSettling i s).events, lost := (markSettling i s).lost } := by
  unfold markSettling postHealth; dsimp only; split <;> rfl

/-! ## The moves that touch the mode or the tables -/

/-- A move is one of the apply points and mode entries, or leaves what a `RecordFrame` names. -/
theorem Move.cases_record {c : Instr} {s₀ s t : State} (h : Move c s₀ s t) :
    RecordFrame c s t ∨
      (∃ straps rate, c = .deviceReset straps rate ∧ t = restartRuntime (loadTables (readStraps straps rate s))) ∨
      (ticks c = true ∧ t = Machine.applyPoint s) ∨
      (c = .warmupCountEnd ∧ s.mode = .warmup ∧ t = Machine.enterRun s) ∨
      (TakenAs .run 0x58 [] c s₀ ∧ s.mode = .standby ∧ t = Machine.enterWarmup s) ∨
      (TakenAs .standby 0x59 [] c s₀ ∧ s.mode ≠ .standby ∧ t = Machine.enterStandby s) ∨
      (TakenAs .restart 0x5A [] c s₀ ∧ t = restartRuntime s) := by
  have group : ∀ {u : State}, GroupFrame s u → RecordFrame c s u := fun k => k.zone.work.record c
  have same : ListKept s s := ⟨rfl, rfl, rfl⟩
  have other : applies c = false → applies c ≠ true := fun no => by rw [no]; exact nofun
  cases h with
  | deviceReset straps rate s is => exact .inr (.inl ⟨straps, rate, is, rfl⟩)
  | applyPoint s due => exact .inr (.inr (.inl ⟨due, rfl⟩))
  | enterRun s is warm => exact .inr (.inr (.inr (.inl ⟨is, warm, rfl⟩)))
  | enterWarmup s taken idle => exact .inr (.inr (.inr (.inr (.inl ⟨taken, idle, rfl⟩))))
  | enterStandby s taken active => exact .inr (.inr (.inr (.inr (.inr (.inl ⟨taken, active, rfl⟩)))))
  | restart s taken => exact .inr (.inr (.inr (.inr (.inr (.inr ⟨taken, rfl⟩)))))
  | plain frame =>
    unfold PlainFrame at frame; rw [frame]
    exact .inl ⟨rfl, rfl, rfl, rfl, rfl, fun _ => same⟩
  | takePoint node status p s => rw [takePoint_frame]; exact .inl ⟨rfl, rfl, rfl, rfl, rfl, fun _ => same⟩
  | markSettling i s => rw [markSettling_frame]; exact .inl ⟨rfl, rfl, rfl, rfl, rfl, fun _ => same⟩
  | nodes f s keeps =>
    exact .inl ⟨rfl, rfl, rfl, rfl, by simp [Function.comp_def, keeps], fun _ => same⟩
  | doWork w s => exact .inl ((doWork_workFrame w s).record c)
  | expireTop g s => exact .inl (group (expireTop_groupFrame g s))
  | push g x s => exact .inl (group ((changeStack_groupFrame g _ s).trans (judgeVent_groupFrame _)))
  | pop g x xs s => exact .inl (group ((changeStack_groupFrame g _ s).trans (judgeVent_groupFrame _)))
  | fanReset f s =>
    exact .inl (group (((changeFan_fanFrame f _ s).group.trans (recomputeRunSet_groupFrame _ _)).trans
      (judgeFans_groupFrame _)))
  | assertReset s is => exact .inl ⟨rfl, rfl, rfl, rfl, rfl, fun due => absurd due (other (is ▸ rfl))⟩
  | expireHold s is => exact .inl ⟨rfl, rfl, rfl, rfl, rfl, fun due => absurd due (other (is ▸ rfl))⟩
  | save v s no => exact .inl ⟨rfl, rfl, rfl, rfl, rfl, fun due => absurd due (other no)⟩
  | hold b s no => exact .inl ⟨rfl, rfl, rfl, rfl, rfl, fun due => absurd due (other no)⟩
  | discard s no => exact .inl ⟨rfl, rfl, rfl, rfl, rfl, fun due => absurd due (other no)⟩
  | append t index entries s no => exact .inl ⟨rfl, rfl, rfl, rfl, rfl, fun due => absurd due (other no)⟩
  | _ => exact .inl ⟨rfl, rfl, rfl, rfl, rfl, fun _ => same⟩

theorem Move.pending {c : Instr} {s₀ s t : State} (h : Move c s₀ s t) : t.pending = s.pending := by
  rcases h.cases_record with frame | ⟨straps, rate, -, rfl⟩ | ⟨-, rfl⟩ | ⟨-, -, rfl⟩ | ⟨-, -, rfl⟩ | ⟨-, -, rfl⟩ | ⟨-, rfl⟩
  · exact frame.pending
  · unfold loadTables; split <;> rfl
  · rw [applyPoint_applyFrame s]
  · rw [enterRun_frame]
  · rw [enterWarmup_frame, applyPoint_applyFrame s]
  · rw [enterStandby_frame]
  · rfl

/-- Settles O2: a command is a chain of moves, each of which leaves the queue. -/
theorem everyCommandCompletesAndKeepsTheQueue : Obligations.EveryCommandCompletesAndKeepsTheQueue := by
  intro c s
  obtain ⟨t, eq, moves⟩ := exec_moves c s
  exact ⟨t, eq, moves.keep (P := fun t => t.pending = s.pending) rfl fun u v move same => move.pending.trans same⟩

/-! ## The mode -/

/-- The four ways of R184, each with the command it comes with. -/
theorem Move.mode_cases {c : Instr} {s₀ s t : State} (h : Move c s₀ s t) :
    t.mode = s.mode ∨ (s.mode = .standby ∧ t.mode = .warmup ∧ TakenAs .run 0x58 [] c s₀) ∨
      (s.mode = .warmup ∧ t.mode = .run ∧ c = .warmupCountEnd) ∨
      (t.mode = .standby ∧ (TakenAs .standby 0x59 [] c s₀ ∨ TakenAs .restart 0x5A [] c s₀ ∨
        ∃ straps rate, c = .deviceReset straps rate)) := by
  rcases h.cases_record with frame | ⟨straps, rate, is, rfl⟩ | ⟨-, rfl⟩ | ⟨is, warm, rfl⟩ | ⟨taken, idle, rfl⟩ |
    ⟨taken, -, rfl⟩ | ⟨taken, rfl⟩
  · exact .inl frame.mode
  · exact .inr (.inr (.inr ⟨rfl, .inr (.inr ⟨straps, rate, is⟩)⟩))
  · exact .inl (applyPoint_applyFrame s).mode
  · exact .inr (.inr (.inl ⟨warm, by rw [enterRun_frame], is⟩))
  · exact .inr (.inl ⟨idle, by rw [enterWarmup_frame], taken⟩)
  · exact .inr (.inr (.inr ⟨by rw [enterStandby_frame], .inl taken⟩))
  · exact .inr (.inr (.inr ⟨rfl, .inr (.inl taken)⟩))

/-- A command other than the four of R184 leaves the mode. -/
theorem exec_mode {c : Instr} {s t : State} (h : exec c s = .next t) :
    t.mode = s.mode ∨ (s.mode = .standby ∧ t.mode = .warmup ∧ TakenAs .run 0x58 [] c s) ∨
      (s.mode = .warmup ∧ t.mode = .run ∧ c = .warmupCountEnd) ∨
      (t.mode = .standby ∧ (TakenAs .standby 0x59 [] c s ∨ TakenAs .restart 0x5A [] c s ∨
        ∃ straps rate, c = .deviceReset straps rate)) := by
  refine exec_keeps (P := fun t => t.mode = s.mode ∨ (s.mode = .standby ∧ t.mode = .warmup ∧ TakenAs .run 0x58 [] c s) ∨
      (s.mode = .warmup ∧ t.mode = .run ∧ c = .warmupCountEnd) ∨
      (t.mode = .standby ∧ (TakenAs .standby 0x59 [] c s ∨ TakenAs .restart 0x5A [] c s ∨
        ∃ straps rate, c = .deviceReset straps rate))) h (.inl rfl) fun u v move before => ?_
  rcases move.mode_cases with same | ⟨found, left, run⟩ | ⟨found, left, count⟩ | standby
  · rwa [same]
  · rcases before with same | ⟨-, warm, -⟩ | ⟨-, ran, -⟩ | ⟨-, others⟩
    · exact .inr (.inl ⟨same ▸ found, left, run⟩)
    · rw [warm] at found; cases found
    · rw [ran] at found; cases found
    · obtain ⟨dst, chars, src, rfl, -⟩ := run
      rcases others with ⟨_, _, _, h, -⟩ | ⟨_, _, _, h, -⟩ | ⟨_, _, h⟩ <;> cases h
  · subst count
    rcases before with same | ⟨-, -, ⟨_, _, _, h, -⟩⟩ | ⟨-, ran, -⟩ | ⟨-, others⟩
    · exact .inr (.inr (.inl ⟨same ▸ found, left, rfl⟩))
    · cases h
    · rw [ran] at found; cases found
    · rcases others with ⟨_, _, _, h, -⟩ | ⟨_, _, _, h, -⟩ | ⟨_, _, h⟩ <;> cases h
  · exact .inr (.inr (.inr standby))

theorem step_front {s t : State} {c : Instr} {cs : List Instr} (queue : s.pending = c :: cs) (h : step s = .next t) :
    exec c (s.withPending cs) = .next t := by
  unfold step at h; rw [queue] at h; exact h

/-- Settles O58: the mode changes by the moves that change it, each with its command. -/
theorem modesChangeInFourWays : Obligations.ModesChangeInFourWays := by
  intro s t c cs queue h changed
  rcases exec_mode (step_front queue h) with same | run | count | standby
  · exact absurd same changed
  · exact .inl run
  · exact .inr (.inl count)
  · exact .inr (.inr standby)

/-! ## The tables -/

/-- An apply point changes nothing, or is the application of the list with hold off and no SAVE in flight (R159). -/
theorem applyPoint_cases (s : State) :
    applyPoint s = s ∨ (s.hold = false ∧ s.save = none ∧ s.changes ≠ [] ∧ applyPoint s = application s) := by
  unfold applyPoint; split
  · rename_i open_
    exact .inr ⟨by simpa using open_.1, open_.2.1, open_.2.2, rfl⟩
  · exact .inl rfl

theorem closeTables_tables (n : Nat) (s : State) : (closeTables n s).tables = s.tables := by
  unfold closeTables; dsimp only; split
  · rfl
  · exact (forEachGroup_groupFrame recomputeRunSet_groupFrame s).tables

/-- The tables an application leaves are those its records leave. -/
theorem application_tables (s : State) : (application s).tables = (applyRecords s.changes s).1.tables :=
  closeTables_tables _ _

theorem takeNotice_tables (n : Notice) (i : Fin 64) (s : State) : (takeNotice n i s).tables = s.tables := by
  cases n <;> rfl

/-- What an applied record does to the tables: it sets its own entry (R160, R161). -/
theorem applyChange_tables (c : Change) (s : State) :
    (applyChange c s).tables =
      match c with
      | .binding i e => { s.tables with bindings := s.tables.bindings.set i e }
      | .zone z e => { s.tables with zones := s.tables.zones.set z (storedZone e) }
      | .group g e => { s.tables with groups := s.tables.groups.set g e }
      | .fan f e => { s.tables with fans := s.tables.fans.set f e }
      | .device e => { s.tables with device := e } := by
  cases c with
  | binding i e => exact takeNotice_tables _ i _
  | zone z e =>
    show (applyZone z e s).tables = _
    unfold applyZone; dsimp only
    split
    · rename_i same; rw [← same]; simp
    · split
      · rfl
      · rw [((replaceZone_zoneFrame z _ _).trans (forEachGroup_groupFrame restage_groupFrame _).zone).tables]
  | group g e =>
    show (applyGroup g e s).tables = _
    unfold applyGroup; dsimp only
    split
    · rename_i same; rw [← same]; simp
    · split
      · rfl
      · rw [((restage_groupFrame g _).trans (recomputeRunSet_groupFrame g _)).tables]; rfl
  | fan f e =>
    show (applyFan f e s).tables = _
    have join : ∀ t, (joinHandOver f e t).tables = t.tables := fun t => by
      unfold joinHandOver; split
      · exact (manualFan_fanFrame f t).group.tables
      · rfl
    unfold applyFan; dsimp only
    split
    · rename_i same; rw [← same]; simp
    · split
      · rw [(recomputeRunSet_groupFrame _ _).tables, join, (changeFan_fanFrame f _ _).group.tables]
      · rw [(recomputeRunSet_groupFrame _ _).tables, (recomputeRunSet_groupFrame _ _).tables, join,
          (changeFan_fanFrame f _ _).group.tables]
  | device e => rfl

/-- Outside STANDBY the records of a list leave the DEVICE entry (R163). -/
theorem applyRecords_device (cs : List Change) (s : State) (active : s.mode ≠ .standby) :
    (applyRecords cs s).1.tables.device = s.tables.device := by
  induction cs generalizing s with
  | nil => rfl
  | cons c cs ih =>
    unfold applyRecords; split
    · rename_i accepted
      have kept : (judgeAlarm (applyChange c s)).mode ≠ .standby := by
        rw [judgeAlarm_mode, (applyChange_applyFrame c s).mode]; exact active
      refine (ih _ kept).trans ?_
      rw [judgeAlarm_tables, applyChange_tables]
      cases c with
      | device e => simp [changeRejects, active] at accepted
      | _ => rfl
    · exact ih _ active

theorem applyPoint_device (s : State) (active : s.mode ≠ .standby) :
    (applyPoint s).tables.device = s.tables.device := by
  rcases applyPoint_cases s with eq | ⟨-, -, -, eq⟩
  · rw [eq]
  · rw [eq, application_tables, applyRecords_device _ s active]

/-- What O57 says of the state `t` that the moves of command `c` reach from `s`: the tables are those of `s` and, of a command
with an apply point, so is what that reads; or an apply point has taken the list. -/
def TablesHeld (c : Instr) (s t : State) : Prop :=
  (t.tables = s.tables ∧ (applies c = true → ListKept s t) ∧ (s.mode ≠ .standby → applies c = true → t.mode ≠ .standby)) ∨
  (s.hold = false ∧ s.save = none ∧ s.changes ≠ [] ∧ (ticks c = true ∨ TakenAs .run 0x58 [] c s) ∧
    (s.mode ≠ .standby → t.tables.device = s.tables.device ∧ t.mode ≠ .standby))

/-- An apply point of a command that has one keeps `TablesHeld`. -/
theorem TablesHeld.applyPoint {c : Instr} {s t : State} (before : TablesHeld c s t)
    (due : ticks c = true ∨ TakenAs .run 0x58 [] c s) (applies_ : applies c = true) : TablesHeld c s (applyPoint t) := by
  have mode := (applyPoint_applyFrame t).mode
  rcases applyPoint_cases t with eq | ⟨off, free, some, -⟩
  · rwa [eq]
  · rcases before with ⟨same, list, active⟩ | ⟨holdOff, noSave, listed, by_, device⟩
    · obtain ⟨hold, save, changes⟩ := list applies_
      refine .inr ⟨hold ▸ off, save ▸ free, changes ▸ some, due, fun running => ?_⟩
      have active := active running applies_
      exact ⟨(applyPoint_device t active).trans (by rw [same]), mode ▸ active⟩
    · refine .inr ⟨holdOff, noSave, listed, by_, fun running => ?_⟩
      obtain ⟨same, active⟩ := device running
      exact ⟨(applyPoint_device t active).trans same, mode ▸ active⟩

theorem applies_of_ticks {c : Instr} (due : ticks c = true) : applies c = true := by
  rcases ticks_iff.mp due with rfl | rfl | rfl <;> rfl

/-- Every move but those of a DEVICE_RESET keeps `TablesHeld`. -/
theorem TablesHeld.move {c : Instr} {s t u : State} (h : Move c s t u) (noReset : ∀ straps rate, c ≠ .deviceReset straps rate)
    (before : TablesHeld c s t) : TablesHeld c s u := by
  -- a move of a command without an apply point that leaves the tables
  have other : ∀ {v : State}, v.tables = t.tables → applies c = false → TablesHeld c s v := fun same no => by
    rcases before with ⟨tables, -, -⟩ | ⟨-, -, -, due | ⟨_, _, _, is, -⟩, -⟩
    · have none : applies c ≠ true := by rw [no]; exact nofun
      exact .inl ⟨same.trans tables, fun due => absurd due none, fun _ due => absurd due none⟩
    · rw [applies_of_ticks due] at no; cases no
    · subst is; cases no
  rcases h.cases_record with frame | ⟨straps, rate, is, -⟩ | ⟨due, rfl⟩ | ⟨is, -, rfl⟩ | ⟨taken, idle, rfl⟩ |
    ⟨taken, -, rfl⟩ | ⟨taken, rfl⟩
  · have mode := frame.mode
    have tables := frame.tables
    rcases before with ⟨same, kept, active⟩ | ⟨off, free, some, due, device⟩
    · refine .inl ⟨tables.trans same, fun due => ?_, fun running due => mode ▸ active running due⟩
      obtain ⟨hold, save, changes⟩ := kept due
      obtain ⟨hold', save', changes'⟩ := frame.list due
      exact ⟨hold'.trans hold, save'.trans save, changes'.trans changes⟩
    · exact .inr ⟨off, free, some, due, fun running => by rw [tables, mode]; exact device running⟩
  · exact absurd is (noReset straps rate)
  · exact before.applyPoint (.inl due) (applies_of_ticks due)
  · exact other (by rw [enterRun_frame]) (is ▸ rfl)
  · have due : applies c = true := by obtain ⟨_, _, _, rfl, -⟩ := taken; rfl
    have applied := before.applyPoint (.inr taken) due
    have idle : (Machine.applyPoint t).mode = .standby := (applyPoint_applyFrame t).mode.trans idle
    rw [enterWarmup_frame]
    rcases applied with ⟨same, kept, active⟩ | ⟨off, free, some, due, device⟩
    · exact .inl ⟨same, kept, fun _ _ => nofun⟩
    · exact .inr ⟨off, free, some, due, fun running => absurd idle (device running).2⟩
  · exact other (by rw [enterStandby_frame]) (by obtain ⟨_, _, _, rfl, -⟩ := taken; rfl)
  · exact other rfl (by obtain ⟨_, _, _, rfl, -⟩ := taken; rfl)

/-- Settles O57: the tables are held until an apply point takes the list, and outside STANDBY it takes no DEVICE record. -/
theorem tablesChangeOnlyAtApplyPoints : Obligations.TablesChangeOnlyAtApplyPoints := by
  intro s t c cs queue h noReset
  have held : TablesHeld c (s.withPending cs) t :=
    exec_keeps (step_front queue h) (.inl ⟨rfl, fun _ => ⟨rfl, rfl, rfl⟩, fun active _ => active⟩)
      fun _ _ move => TablesHeld.move move noReset
  rcases held with ⟨same, -⟩ | ⟨off, free, some, due, device⟩
  · exact ⟨fun changed => absurd same changed, fun changed => absurd (congrArg Tables.device same) changed⟩
  · refine ⟨fun _ => ⟨off, free, some, ?_⟩, fun changed => ?_⟩
    · rcases due with due | ran
      · rcases ticks_iff.mp due with is | is | is
        · exact .inl is
        · exact .inr (.inl is)
        · exact .inr (.inr (.inl is))
      · exact .inr (.inr (.inr ran))
    · by_contra running
      exact changed (device running).1

end Sys2Proof.Machine
end

section
/-! PROOFS. The binding table's law (R3) and the poll list's law (R131): an applied BINDINGS record keeps keys unique and chains
exact (O53), and the list rebuilt at the close of an application is exact (O54). -/

namespace Sys2Proof.Machine

/-! ## Chains after an applied record -/

/-- R10: the record takes a key that its slot did not hold. -/
def takesKey (old new : Binding) : Prop := new.valid = true ∧ (old.valid = false ∨ ¬ (old.node = new.node ∧ old.point = new.point))

/-- A record that takes a key makes its slot valid, or gives the valid slot another key. -/
theorem classify_of_takesKey {old new : Binding} (takes : takesKey old new) :
    (old.valid = false ∧ classify old new = .validate) ∨ (old.valid = true ∧ classify old new = .rekey) := by
  obtain ⟨valid, key⟩ := takes
  cases was : old.valid with
  | false => exact .inl ⟨rfl, by simp [classify, valid, was]⟩
  | true =>
    have differ : old.node ≠ new.node ∨ old.point ≠ new.point := by simpa [was, imp_iff_not_or] using key
    exact .inr ⟨rfl, by simp [classify, valid, was, differ]⟩

theorem bindingBucket_val (b : Binding) : (bindingBucket b).val = (b.node + 7 * b.point.val) % 16 := rfl

theorem bindingBucket_eq_iff {x : Binding} {b : Fin 16} :
    bindingBucket x = b ↔ (x.node + 7 * x.point.val) % 16 = b.val := by
  rw [← bindingBucket_val, Fin.ext_iff]

theorem bindingBucket_congr {x y : Binding} (node : x.node = y.node) (point : x.point = y.point) :
    bindingBucket x = bindingBucket y := by
  unfold bindingBucket; rw [node, point]

theorem linkSlot_get (i : Fin 64) (b c : Fin 16) (cs : Vector (List (Fin 64)) 16) :
    (linkSlot i b cs)[c] = if c = b then cs[c] ++ [i] else cs[c] := by
  by_cases h : c = b
  · subst h; simp [linkSlot]
  · have : ¬ b.val = c.val := fun k => h (Fin.ext k.symm)
    simp [linkSlot, h, this]

theorem unlinkSlot_get (i : Fin 64) (b c : Fin 16) (cs : Vector (List (Fin 64)) 16) :
    (unlinkSlot i b cs)[c] = if c = b then cs[c].filter (· != i) else cs[c] := by
  by_cases h : c = b
  · subst h; simp [unlinkSlot]
  · have : ¬ b.val = c.val := fun k => h (Fin.ext k.symm)
    simp [unlinkSlot, h, this]

theorem filter_ne_of_notMem {i : Fin 64} {l : List (Fin 64)} (h : i ∉ l) : l.filter (· != i) = l := by
  rw [List.filter_eq_self]
  intro j hj
  have : j ≠ i := fun e => h (e ▸ hj)
  simpa using this

section
variable {s : State} (law : KeysLaw s)
include law

/-- A slot stands in the chain of its key's bucket, when it is valid, and in no other (R3). -/
theorem KeysLaw.mem_chain {i : Fin 64} {b : Fin 16} :
    i ∈ s.chains[b] ↔ s.tables.bindings[i].valid = true ∧ bindingBucket s.tables.bindings[i] = b := by
  rw [bindingBucket_eq_iff]; exact (law.2 b).2.2 i

/-- The chain without a slot that does not stand in it. -/
theorem KeysLaw.filter_other {i : Fin 64} {b : Fin 16}
    (h : s.tables.bindings[i].valid = true → bindingBucket s.tables.bindings[i] ≠ b) :
    s.chains[b].filter (· != i) = s.chains[b] :=
  filter_ne_of_notMem fun mem => h (law.mem_chain.mp mem).1 (law.mem_chain.mp mem).2

/-- R10, R11: the chain of each bucket after a record for slot `i`. -/
theorem KeysLaw.rechained_get (i : Fin 64) (new : Binding) (b : Fin 16) :
    let old := s.tables.bindings[i]
    let rest := s.chains[b].filter (· != i)
    (takesKey old new → (rechained i old new s.chains)[b] = if b = bindingBucket new then rest ++ [i] else rest) ∧
    (new.valid = false → (rechained i old new s.chains)[b] = rest) ∧
    (¬ takesKey old new → new.valid = true → (rechained i old new s.chains)[b] = s.chains[b]) := by
  intro old rest
  have absent : old.valid = false → rest = s.chains[b] := fun no => law.filter_other fun yes => by
    rw [no] at yes; cases yes
  have elsewhere : b ≠ bindingBucket old → rest = s.chains[b] := fun ne => law.filter_other fun _ => ne.symm
  have unlinked : (unlinkSlot i (bindingBucket old) s.chains)[b] = rest := by
    rw [unlinkSlot_get]; split
    · rfl
    · rename_i ne; exact (elsewhere ne).symm
  refine ⟨fun takes => ?_, fun invalid => ?_, fun kept valid => ?_⟩
  · rcases classify_of_takesKey takes with ⟨was, is⟩ | ⟨-, is⟩
    · simp only [rechained, is, linkSlot_get, absent was]
    · simp only [rechained, is, linkSlot_get, unlinked]
  · cases h : old.valid with
    | false =>
      have class_ : classify old new = .staysInvalid := by simp [classify, invalid, h]
      simp only [rechained, class_, absent h]
    | true =>
      have class_ : classify old new = .invalidate := by simp [classify, invalid, h]
      simp only [rechained, class_, unlinked]
  · have kept := not_and.mp kept valid
    rw [not_or, not_not] at kept
    obtain ⟨was, node, point⟩ := kept
    have was : old.valid = true := by simpa using was
    by_cases kind : old.kind = new.kind
    · cases same : sameEffect old new
      · simp [rechained, classify, was, valid, node, point, kind, same]
      · simp [rechained, classify, was, valid, node, point, kind, same]
    · simp [rechained, classify, was, valid, node, point, kind]

end

/-! ## What a BINDINGS record that is not refused asks for -/

/-- R12, R13: a record that takes a key collides with no other valid slot, and its chain has room. -/
theorem bindingRejects_none {s : State} {i : Fin 64} {new : Binding} (accepted : bindingRejects s i new = none)
    (takes : takesKey s.tables.bindings[i] new) : keyCollides s i new = false ∧ chainIsFull s i new = false := by
  have checks : (if keyCollides s i new then some Reject.keyCollision else
      if chainIsFull s i new then some .chainFull else none) = none := by
    unfold bindingRejects at accepted
    rcases classify_of_takesKey takes with ⟨-, is⟩ | ⟨-, is⟩
    · rw [is] at accepted; exact accepted
    · rw [is] at accepted
      dsimp only at accepted
      split at accepted
      · cases accepted
      · exact accepted
  split at checks
  · cases checks
  · split at checks
    · cases checks
    · exact ⟨by simpa using ‹¬ keyCollides s i new = true›, by simpa using ‹¬ chainIsFull s i new = true›⟩

theorem keyCollides_iff {s : State} {i : Fin 64} {new : Binding} :
    keyCollides s i new = true ↔ ∃ j : Fin 64, j ≠ i ∧ s.tables.bindings[j].valid = true ∧
      s.tables.bindings[j].node = new.node ∧ s.tables.bindings[j].point = new.point := by
  simp [keyCollides, and_assoc]

theorem chainIsFull_iff {s : State} {i : Fin 64} {new : Binding} :
    chainIsFull s i new = true ↔ 8 ≤ (s.chains[bindingBucket new].filter (· != i)).length := by
  simp [chainIsFull]

theorem takeNotice_chains (n : Notice) (i : Fin 64) (s : State) : (takeNotice n i s).chains = s.chains := by
  cases n <;> rfl

theorem applyBinding_bindings (i j : Fin 64) (new : Binding) (s : State) :
    (applyBinding i new s).tables.bindings[j] = if j = i then new else s.tables.bindings[j] := by
  unfold applyBinding
  rw [takeNotice_tables]
  by_cases h : j = i
  · subst h; simp
  · have : ¬ i.val = j.val := fun k => h (Fin.ext k.symm)
    simp [h, this]

theorem applyBinding_chains (i : Fin 64) (new : Binding) (s : State) :
    (applyBinding i new s).chains = rechained i s.tables.bindings[i] new s.chains := by
  unfold applyBinding; rw [takeNotice_chains]

/-- The chains after a record that is not refused hold exactly the valid slots of the table it leaves, at most 8 each. -/
theorem KeysLaw.rechained {s : State} (law : KeysLaw s) {i : Fin 64} {new : Binding}
    (room : takesKey s.tables.bindings[i] new → chainIsFull s i new = false) (b : Fin 16) :
    let chain := (rechained i s.tables.bindings[i] new s.chains)[b]
    chain.length ≤ 8 ∧ chain.Nodup ∧ ∀ j : Fin 64, j ∈ chain ↔
      (if j = i then new else s.tables.bindings[j]).valid = true ∧
        bindingBucket (if j = i then new else s.tables.bindings[j]) = b := by
  intro chain
  obtain ⟨taken, dropped, kept⟩ := law.rechained_get i new b
  obtain ⟨short, once, -⟩ := law.2 b
  have rest_short : (s.chains[b].filter (· != i)).length ≤ 8 := (List.length_filter_le _ _).trans short
  have rest_once : (s.chains[b].filter (· != i)).Nodup := once.filter _
  have mem_rest : ∀ j, j ∈ s.chains[b].filter (· != i) ↔
      j ≠ i ∧ s.tables.bindings[j].valid = true ∧ bindingBucket s.tables.bindings[j] = b := fun j => by
    rw [List.mem_filter, law.mem_chain, and_comm]; simp
  by_cases takes : takesKey s.tables.bindings[i] new
  · have chain_eq : chain = _ := taken takes
    by_cases own : b = bindingBucket new
    · rw [if_pos own] at chain_eq
      have fits : (s.chains[b].filter (· != i)).length < 8 := by
        have := room takes
        rw [← Bool.not_eq_true, chainIsFull_iff, Nat.not_le] at this
        simpa only [own] using this
      rw [chain_eq]
      refine ⟨by simp only [List.length_append, List.length_singleton]; omega, ?_, fun j => ?_⟩
      · exact List.nodup_append.mpr ⟨rest_once, List.nodup_singleton i, by
          intro x hx y hy
          rw [List.mem_singleton.mp hy]
          exact ((mem_rest x).mp hx).1⟩
      · rw [List.mem_append, mem_rest, List.mem_singleton]
        by_cases h : j = i
        · simp [h, takes.1, own]
        · simp [h]
    · rw [if_neg own] at chain_eq
      rw [chain_eq]
      refine ⟨rest_short, rest_once, fun j => ?_⟩
      rw [mem_rest]
      by_cases h : j = i
      · simp [h, Ne.symm own]
      · simp [h]
  · cases valid : new.valid with
    | false =>
      have chain_eq : chain = _ := dropped valid
      rw [chain_eq]
      refine ⟨rest_short, rest_once, fun j => ?_⟩
      rw [mem_rest]
      by_cases h : j = i
      · simp [h, valid]
      · simp [h]
    | true =>
      have chain_eq : chain = _ := kept takes valid
      have same := not_and.mp takes valid
      rw [not_or, not_not] at same
      obtain ⟨was, node, point⟩ := same
      have was : s.tables.bindings[i].valid = true := by simpa using was
      rw [chain_eq]
      refine ⟨short, once, fun j => ?_⟩
      rw [law.mem_chain]
      by_cases h : j = i
      · subst h; rw [if_pos rfl, bindingBucket_congr node point]; simp only [was, valid]
      · simp [h]

/-- R10 to R13: an applied BINDINGS record keeps the law. -/
theorem KeysLaw.applyBinding {s : State} (law : KeysLaw s) {i : Fin 64} {new : Binding}
    (accepted : bindingRejects s i new = none) : KeysLaw (applyBinding i new s) := by
  refine ⟨fun j k => ?_, fun b => ?_⟩
  · rw [applyBinding_bindings, applyBinding_bindings]
    -- another valid slot never holds the new key
    have alone : ∀ l : Fin 64, l ≠ i → new.valid = true → s.tables.bindings[l].valid = true →
        s.tables.bindings[l].node = new.node → s.tables.bindings[l].point ≠ new.point := by
      intro l other valid validL node point
      by_cases takes : takesKey s.tables.bindings[i] new
      · have := (bindingRejects_none accepted takes).1
        rw [keyCollides_iff.mpr ⟨l, other, validL, node, point⟩] at this; cases this
      · have same := not_and.mp takes valid
        rw [not_or, not_not] at same
        obtain ⟨was, nodes, points⟩ := same
        exact other (law.1 l i validL (by simpa using was) (node.trans nodes.symm) (point.trans points.symm))
    by_cases hj : j = i
    · by_cases hk : k = i
      · intros; rw [hj, hk]
      · rw [if_pos hj, if_neg hk]
        exact fun v vk node point => absurd point.symm (alone k hk v vk node.symm)
    · by_cases hk : k = i
      · rw [if_neg hj, if_pos hk]
        exact fun vj v node point => absurd point (alone j hj v vj node)
      · rw [if_neg hj, if_neg hk]; exact law.1 j k
  · rw [applyBinding_chains]
    obtain ⟨short, once, mem⟩ := law.rechained (fun takes => (bindingRejects_none accepted takes).2) b
    exact ⟨short, once, fun j => by rw [applyBinding_bindings, mem, bindingBucket_eq_iff]⟩

/-! ## The law of keys over an application -/

/-- The law of keys reads the bindings and the chains only. -/
theorem KeysLaw.congr {s t : State} (bindings : t.tables.bindings = s.tables.bindings) (chains : t.chains = s.chains)
    (law : KeysLaw s) : KeysLaw t := by
  unfold KeysLaw; rw [bindings, chains]; exact law

theorem GroupFrame.chains {s t : State} (h : GroupFrame s t) : t.chains = s.chains := by rw [h]
theorem ZoneFrame.chains {s t : State} (h : ZoneFrame s t) : t.chains = s.chains := by rw [h]

/-- An applied record of another table leaves the chains. -/
theorem applyChange_chains (c : Change) (s : State) (other : c.table ≠ .bindings) :
    (applyChange c s).chains = s.chains := by
  cases c with
  | binding i e => exact absurd rfl other
  | zone z e =>
    show (applyZone z e s).chains = _
    unfold applyZone; dsimp only
    split
    · rfl
    · split
      · rfl
      · rw [((replaceZone_zoneFrame z _ _).trans (forEachGroup_groupFrame restage_groupFrame _).zone).chains]
  | group g e =>
    show (applyGroup g e s).chains = _
    unfold applyGroup; dsimp only
    split
    · rfl
    · split
      · rfl
      · rw [((restage_groupFrame g _).trans (recomputeRunSet_groupFrame g _)).chains]; rfl
  | fan f e =>
    show (applyFan f e s).chains = _
    have join : ∀ t, (joinHandOver f e t).chains = t.chains := fun t => by
      unfold joinHandOver; split
      · exact (manualFan_fanFrame f t).group.chains
      · rfl
    unfold applyFan; dsimp only
    split
    · rfl
    · split
      · rw [(recomputeRunSet_groupFrame _ _).chains, join, (changeFan_fanFrame f _ _).group.chains]
      · rw [(recomputeRunSet_groupFrame _ _).chains, (recomputeRunSet_groupFrame _ _).chains, join,
          (changeFan_fanFrame f _ _).group.chains]
  | device e => rfl

theorem KeysLaw.applyChange {s : State} (law : KeysLaw s) {c : Change} (accepted : changeRejects s c = none) :
    KeysLaw (applyChange c s) := by
  cases c with
  | binding i e => exact law.applyBinding accepted
  | zone z e => exact law.congr (by rw [applyChange_tables]) (applyChange_chains _ s nofun)
  | group g e => exact law.congr (by rw [applyChange_tables]) (applyChange_chains _ s nofun)
  | fan f e => exact law.congr (by rw [applyChange_tables]) (applyChange_chains _ s nofun)
  | device e => exact law

/-- What every accepted record and every post keeps holds after the records of a list. -/
theorem applyRecords_induction {P : State → Prop}
    (apply : ∀ c s, changeRejects s c = none → P s → P (judgeAlarm (applyChange c s)))
    (reject : ∀ k n d s, P s → P (post k n d s)) (cs : List Change) (s : State) (start : P s) :
    P (applyRecords cs s).1 := by
  induction cs generalizing s with
  | nil => exact start
  | cons c cs ih =>
    unfold applyRecords; split
    · exact ih _ (apply c s ‹_› start)
    · exact ih _ (reject _ _ _ s start)

theorem closeTables_chains (n : Nat) (s : State) : (closeTables n s).chains = s.chains := by
  unfold closeTables; dsimp only; split
  · rfl
  · exact (forEachGroup_groupFrame recomputeRunSet_groupFrame s).chains

theorem KeysLaw.applyPoint {s : State} (law : KeysLaw s) : KeysLaw (applyPoint s) := by
  rcases applyPoint_cases s with eq | ⟨-, -, -, eq⟩
  · rw [eq]; exact law
  · rw [eq]
    have records : KeysLaw (applyRecords s.changes s).1 :=
      applyRecords_induction (fun _ _ accepted before => (before.applyChange accepted).congr rfl rfl)
        (fun _ _ _ _ before => before.congr rfl rfl) _ s law
    exact records.congr (by rw [application_tables]) (closeTables_chains _ _)

/-- Settles O53: of the moves but a device reset's, only an apply point touches bindings or chains, and it keeps the law. -/
theorem everyStepKeepsTheBindingLaw : Obligations.EveryStepKeepsTheBindingLaw := by
  intro s t law noReset h
  unfold step at h
  split at h
  · cases h; exact law
  · rename_i c cs queue
    refine exec_keeps h (P := KeysLaw) law fun u v move before => ?_
    rcases move.cases_record with frame | ⟨straps, rate, is, -⟩ | ⟨-, rfl⟩ | ⟨-, -, rfl⟩ | ⟨-, -, rfl⟩ | ⟨-, -, rfl⟩ | ⟨-, rfl⟩
    · exact before.congr (by rw [frame.tables]) frame.chains
    · exact absurd (by rw [queue, is]; rfl) (noReset straps rate)
    · exact before.applyPoint
    · exact before.congr (by rw [enterRun_frame]) (by rw [enterRun_frame])
    · exact before.applyPoint.congr (by rw [enterWarmup_frame]) (by rw [enterWarmup_frame])
    · exact before.congr (by rw [enterStandby_frame]) (by rw [enterStandby_frame])
    · exact before.congr rfl rfl

/-! ## The poll list's law -/

/-- The law of the poll list reads the addresses of the list and the two tables they come from. -/
theorem PollLaw.congr {s t : State} (addresses : t.pollList.map (·.address) = s.pollList.map (·.address))
    (tables : t.tables = s.tables) (law : PollLaw s) : PollLaw t := by
  have mem : ∀ a, (∃ e ∈ t.pollList, e.address = a) ↔ ∃ e ∈ s.pollList, e.address = a := fun a => by
    have same := congrArg (a ∈ ·) addresses
    simpa only [List.mem_map, eq_iff_iff] using same
  unfold PollLaw
  rw [addresses, tables]
  exact ⟨law.1, fun a => (mem a).trans (law.2 a)⟩

/-- A rebuilt list satisfies the law (R131, R132). -/
theorem pollLaw_of_rebuilt {s : State} {before : List PollEntry} (rebuilt : s.pollList = rebuiltList s.tables before) :
    PollLaw s := by
  have addresses : s.pollList.map (·.address) = pollAddresses s.tables := by rw [rebuilt, rebuiltList_addresses]
  refine ⟨addresses ▸ pollAddresses_ascending _, fun a => ?_⟩
  rw [← mem_pollAddresses, ← addresses, List.mem_map]

/-- With no record applied, the records of a list leave the tables. -/
theorem applyRecords_none {cs : List Change} {s : State} (none : (applyRecords cs s).2.1 = 0) :
    (applyRecords cs s).1.tables = s.tables := by
  induction cs generalizing s with
  | nil => rfl
  | cons c cs ih =>
    unfold applyRecords at none ⊢; split at none
    · exact absurd none (Nat.succ_ne_zero _)
    · exact ih none

/-- The records of a list leave the poll list; its rebuild is the close's (R132). -/
theorem applyChange_pollList (c : Change) (s : State) : (applyChange c s).pollList = s.pollList := by
  have zone : ∀ {u v : State}, ZoneFrame u v → v.pollList = u.pollList := fun h => by rw [h]
  cases c with
  | binding i e => show (applyBinding i e s).pollList = _; unfold applyBinding takeNotice; dsimp only; split <;> rfl
  | zone z e =>
    show (applyZone z e s).pollList = _
    unfold applyZone; dsimp only
    split
    · rfl
    · split
      · rfl
      · rw [zone ((replaceZone_zoneFrame z _ _).trans (forEachGroup_groupFrame restage_groupFrame _).zone)]
  | group g e =>
    show (applyGroup g e s).pollList = _
    unfold applyGroup; dsimp only
    split
    · rfl
    · split
      · rfl
      · rw [zone ((restage_groupFrame g _).trans (recomputeRunSet_groupFrame g _)).zone]; rfl
  | fan f e =>
    show (applyFan f e s).pollList = _
    have join : ∀ t, GroupFrame t (joinHandOver f e t) := fun t => by
      unfold joinHandOver; split
      · exact (manualFan_fanFrame f t).group
      · rfl
    unfold applyFan; dsimp only
    split
    · rfl
    · split
      · rw [zone (((changeFan_fanFrame f _ _).group.trans (join _)).trans (recomputeRunSet_groupFrame _ _)).zone]
      · rw [zone ((((changeFan_fanFrame f _ _).group.trans (join _)).trans (recomputeRunSet_groupFrame _ _)).trans
          (recomputeRunSet_groupFrame _ _)).zone]
  | device e => rfl

theorem applyRecords_pollList (cs : List Change) (s : State) : (applyRecords cs s).1.pollList = s.pollList :=
  applyRecords_induction (P := fun t => t.pollList = s.pollList)
    (fun c t _ before => (applyChange_pollList c t).trans before) (fun _ _ _ _ before => before) cs s rfl

theorem PollLaw.applyPoint {s : State} (law : PollLaw s) : PollLaw (applyPoint s) := by
  rcases applyPoint_cases s with eq | ⟨-, -, -, eq⟩
  · rw [eq]; exact law
  · rw [eq]
    have closed : PollLaw (closeTables (applyRecords s.changes s).2.1 (applyRecords s.changes s).1) := by
      unfold closeTables; split
      · rename_i none
        exact law.congr (by rw [applyRecords_pollList]) (applyRecords_none none)
      · exact pollLaw_of_rebuilt rfl
    exact closed.congr rfl rfl

theorem restartRuntime_pollLaw (s : State) : PollLaw (restartRuntime s) := pollLaw_of_rebuilt (before := []) rfl

/-- Settles O54: the list is rebuilt where the tables change, and elsewhere its addresses stay. -/
theorem everyStepKeepsThePollListLaw : Obligations.EveryStepKeepsThePollListLaw := by
  intro s t law h
  refine step_keeps (P := PollLaw) (fun _ _ => id) (fun c s₀ u v move before => ?_) h law
  rcases move.cases_record with frame | ⟨straps, rate, -, rfl⟩ | ⟨-, rfl⟩ | ⟨-, -, rfl⟩ | ⟨-, -, rfl⟩ | ⟨-, -, rfl⟩ | ⟨-, rfl⟩
  · exact before.congr frame.addresses frame.tables
  · exact restartRuntime_pollLaw _
  · exact before.applyPoint
  · exact before.congr (by rw [enterRun_frame]) (by rw [enterRun_frame])
  · exact before.applyPoint.congr (by rw [enterWarmup_frame]) (by rw [enterWarmup_frame])
  · exact before.congr (by rw [enterStandby_frame]; simp [standbyNode, Function.comp_def]) (by rw [enterStandby_frame])
  · exact restartRuntime_pollLaw _

end Sys2Proof.Machine
end

section
/-! PROOFS. The event queue (R192) and the override stacks over the blocks' operations: no operation takes an event out of the queue or
a context off a stack, and with it O49. -/

namespace Sys2Proof.Machine

/-! ## The queue grows -/

/-- From `s` to `t` events were posted, if anything: the queue holds what it held, up to its repeat count. -/
structure QueueGrows (s t : State) : Prop where
  holds : ∀ e ∈ s.events, ∃ e' ∈ t.events, e'.kind = e.kind ∧ e'.subject = e.subject ∧ e'.detail = e.detail
  lost : min 255 s.lost ≤ t.lost
  law : EventsLaw s → EventsLaw t

theorem QueueGrows.of_same {s t : State} (events : t.events = s.events) (lost : t.lost = s.lost) : QueueGrows s t := by
  refine ⟨fun e mem => ⟨e, events ▸ mem, rfl, rfl, rfl⟩, by omega, fun law => ?_⟩
  unfold EventsLaw; rw [events, lost]; exact law

theorem QueueGrows.refl (s : State) : QueueGrows s s := .of_same rfl rfl

theorem QueueGrows.trans {s t u : State} (h : QueueGrows s t) (k : QueueGrows t u) : QueueGrows s u := by
  refine ⟨fun e mem => ?_, ?_, fun law => k.law (h.law law)⟩
  · obtain ⟨e', mem', kind, subject, detail⟩ := h.holds e mem
    obtain ⟨e'', mem'', kind', subject', detail'⟩ := k.holds e' mem'
    exact ⟨e'', mem'', kind'.trans kind, subject'.trans subject, detail'.trans detail⟩
  · have first := h.lost
    have second := k.lost
    omega

/-- The queue and the lost count after a post, by what the queue held (R192). -/
theorem post_grows (k : EventKind) (n : Nat) (d : Half) (s : State) : QueueGrows s (post k n d s) := by
  have cases := postInto_cases s.events s.lost
    { kind := k, subject := byteOf n, detail := d, stamp := s.cycleCount, repeats := 1 }
  rcases cases with ⟨p, r, held, -, eq⟩ | ⟨-, room, eq⟩ | ⟨-, full, eq⟩
  · refine ⟨fun e mem => ?_, ?_, fun ⟨short, repeats, lost⟩ => ?_⟩
    · simp only [post, eq]
      rw [held] at mem
      rcases List.mem_append.mp mem with before | last
      · exact ⟨e, List.mem_append_left _ before, rfl, rfl, rfl⟩
      · rw [List.mem_singleton.mp last]
        exact ⟨_, List.mem_append_right _ (List.mem_singleton_self _), rfl, rfl, rfl⟩
    · simp only [post, eq]; omega
    · unfold EventsLaw; simp only [post, eq]
      rw [held] at short repeats
      refine ⟨by simpa using short, fun e mem => ?_, lost⟩
      rcases List.mem_append.mp mem with before | last
      · exact repeats e (List.mem_append_left _ before)
      · have := repeats r (List.mem_append_right _ (List.mem_singleton_self r))
        rw [List.mem_singleton.mp last]; dsimp only; omega
  · refine ⟨fun e mem => ⟨e, ?_, rfl, rfl, rfl⟩, ?_, fun ⟨short, repeats, lost⟩ => ?_⟩
    · simp only [post, eq]; exact List.mem_append_left _ mem
    · simp only [post, eq]; omega
    · unfold EventsLaw; simp only [post, eq]
      refine ⟨by rw [List.length_append, List.length_singleton]; exact room, fun e mem => ?_, lost⟩
      rcases List.mem_append.mp mem with before | last
      · exact repeats e before
      · rw [List.mem_singleton.mp last]; dsimp only; omega
  · refine ⟨fun e mem => ⟨e, ?_, rfl, rfl, rfl⟩, ?_, fun ⟨short, repeats, lost⟩ => ?_⟩
    · simp only [post, eq]; exact mem
    · simp only [post, eq]; omega
    · unfold EventsLaw; simp only [post, eq]
      exact ⟨short, repeats, by omega⟩

/-! ## Posted events -/

/-- The event just posted stands in the queue, or was lost (R192). -/
theorem posted_post (k : EventKind) (n : Nat) (d : Half) (s : State) : Posted s (post k n d s) k n d := by
  unfold Posted
  rcases postInto_cases s.events s.lost
    { kind := k, subject := byteOf n, detail := d, stamp := s.cycleCount, repeats := 1 } with
    ⟨p, r, -, same, eq⟩ | ⟨-, -, eq⟩ | ⟨-, -, eq⟩
  · refine .inl ⟨{ r with repeats := min 15 (r.repeats + 1) }, ?_, same⟩
    simp [post, eq]
  · refine .inl ⟨{ kind := k, subject := byteOf n, detail := d, stamp := s.cycleCount, repeats := 1 }, ?_, rfl, rfl, rfl⟩
    simp [post, eq]
  · refine .inr ?_
    simp only [post, eq]; omega

/-- A posted event stays posted while events are posted. -/
theorem Posted.then {s t u : State} {k : EventKind} {n : Nat} {d : Half} (h : Posted s t k n d) (more : QueueGrows t u) :
    Posted s u k n d := by
  have lost := more.lost
  rcases h with ⟨e, mem, kind, subject, detail⟩ | count | limit
  · obtain ⟨e', mem', kind', subject', detail'⟩ := more.holds e mem
    exact .inl ⟨e', mem', kind'.trans kind, subject'.trans subject, detail'.trans detail⟩
  · exact .inr (by omega)
  · exact .inr (by omega)

/-- An event posted after others. -/
theorem Posted.after {s t u : State} {k : EventKind} {n : Nat} {d : Half} (before : QueueGrows s t) (h : Posted t u k n d) :
    Posted s u k n d := by
  have lost := before.lost
  rcases h with held | count | limit
  · exact .inl held
  · exact .inr (by omega)
  · exact .inr (.inr limit)

/-- Whether an event was posted is read off the queues and the lost counts. -/
theorem Posted.congr {s t u v : State} {k : EventKind} {n : Nat} {d : Half} (h : Posted s t k n d)
    (lost : u.lost = s.lost) (events' : v.events = t.events) (lost' : v.lost = t.lost) : Posted u v k n d := by
  unfold Posted; rw [lost, events', lost']; exact h

/-! ## The fans post and leave the stacks -/

/-- From `s` to `t` the queue grows and every override stack stays. -/
structure Calm (s t : State) : Prop where
  grows : QueueGrows s t
  contexts : ∀ g : Fin 4, t.groups[g].stack = s.groups[g].stack

theorem Calm.refl (s : State) : Calm s s := ⟨.refl s, fun _ => rfl⟩

theorem Calm.trans {s t u : State} (h : Calm s t) (k : Calm t u) : Calm s u :=
  ⟨h.grows.trans k.grows, fun g => (k.contexts g).trans (h.contexts g)⟩

/-- An operation that leaves the queue and the group records is calm. -/
theorem Calm.of_same {s t : State} (events : t.events = s.events) (lost : t.lost = s.lost) (groups : t.groups = s.groups) :
    Calm s t := ⟨.of_same events lost, fun g => by rw [groups]⟩

theorem post_calm (k : EventKind) (n : Nat) (d : Half) (s : State) : Calm s (post k n d s) :=
  ⟨post_grows k n d s, fun _ => rfl⟩

/-- An operation that replaces one group record and keeps its stack is calm. -/
theorem setGroup_calm {g : Fin 4} {r : GroupRecord} {s : State} (stack : r.stack = s.groups[g].stack) :
    Calm s (setGroup g r s) := by
  refine ⟨.of_same rfl rfl, fun h => ?_⟩
  rw [groups_setGroup]; split
  · rename_i same; subst same; exact stack
  · rfl

theorem judgeAlarm_calm (s : State) : Calm s (judgeAlarm s) := .of_same rfl rfl rfl
theorem judgeAll_calm (s : State) : Calm s (judgeAll s) := .of_same rfl rfl rfl
theorem judgeFans_calm (s : State) : Calm s (judgeFans s) := .of_same rfl rfl rfl
theorem setFan_calm (f : Fin 8) (r : FanRecord) (s : State) : Calm s (setFan f r s) := .of_same rfl rfl rfl
theorem setChannel_calm (i : Fin 64) (r : ChannelRecord) (s : State) : Calm s (setChannel i r s) := .of_same rfl rfl rfl

theorem forEachFree_calm {α : Type} {xs : List α} {f : α → State → State} (h : ∀ x s, Calm s (f x s)) (s : State) :
    Calm s (forEachFree xs f s) :=
  forEachFree_induction (P := Calm s) (fun _ => .of_same rfl rfl rfl) fun x _ t before => before.trans (h x t)

theorem forEachGroup_calm {gs : List (Fin 4)} {f : Fin 4 → State → State} (h : ∀ g s, Calm s (f g s)) (s : State) :
    Calm s (forEachGroup gs f s) :=
  forEachGroup_induction (P := Calm s) (.refl s) (fun _ _ before => before.trans (.of_same rfl rfl rfl))
    fun g _ t before => before.trans (h g t)

theorem foldl_calm {α : Type} {f : State → α → State} (h : ∀ s x, Calm s (f s x)) (xs : List α) (s : State) :
    Calm s (xs.foldl f s) := by
  induction xs generalizing s with
  | nil => exact .refl s
  | cons x xs ih => exact (h s x).trans (ih _)

theorem changeFan_calm (f : Fin 8) (r : FanRecord) (s : State) : Calm s (changeFan f r s) := by
  unfold changeFan; dsimp only; split
  · exact setFan_calm f r s
  · exact (setFan_calm f r s).trans (post_calm _ _ _ _)

theorem actOnMember_calm (g : Fin 4) (joins : Bool) (f : Fin 8) (s : State) : Calm s (actOnMember g joins f s) := by
  unfold actOnMember; dsimp only; split
  · split
    · exact changeFan_calm _ _ s
    · exact .refl s
  · split
    · exact changeFan_calm _ _ s
    · exact .refl s

theorem takeBackFan_calm (g : Fin 4) (f : Fin 8) (s : State) : Calm s (takeBackFan g f s) := by
  unfold takeBackFan; split
  · exact changeFan_calm _ _ s
  · split
    · exact changeFan_calm _ _ s
    · exact changeFan_calm _ _ s

theorem judgeFan_calm (f : Fin 8) (s : State) : Calm s (judgeFan f s) := by
  unfold judgeFan; dsimp only; split
  · exact .refl s
  · split
    · exact changeFan_calm _ _ s
    · exact setFan_calm _ _ s
  · split
    · exact changeFan_calm _ _ s
    · split
      · exact setFan_calm _ _ s
      · split
        · exact changeFan_calm _ _ s
        · exact setFan_calm _ _ s

theorem changeCondition_calm (g : Fin 4) (s : State) : Calm s (changeCondition g s) := by
  unfold changeCondition; dsimp only; split
  · exact .refl s
  · exact ((setGroup_calm (by rfl)).trans (post_calm _ _ _ _)).trans (judgeAlarm_calm _)

theorem recomputeRunSet_calm (g : Fin 4) (s : State) : Calm s (recomputeRunSet g s) :=
  ((setGroup_calm (by rfl)).trans (forEachFree_calm (fun f => actOnMember_calm g _ f) _)).trans (changeCondition_calm g _)

theorem startsAndStops_calm (g : Fin 4) (s : State) : Calm s (startsAndStops g s) := by
  unfold startsAndStops; split
  · exact forEachFree_calm (fun f t => changeFan_calm f _ t) s
  · exact forEachFree_calm (fun f t => changeFan_calm f _ t) s

theorem judgeGroup_calm (g : Fin 4) (s : State) : Calm s (judgeGroup g s) :=
  forEachFree_calm (fun f t => (judgeFan_calm f t).trans (judgeAlarm_calm _)) s

theorem superviseGroup_calm (g : Fin 4) (s : State) : Calm s (superviseGroup g s) := by
  unfold superviseGroup failOver; split
  · exact (judgeGroup_calm g s).trans (recomputeRunSet_calm g _)
  · exact judgeGroup_calm g s

theorem writeSetpoints_calm (g : Fin 4) (s : State) : Calm s (writeSetpoints g s) :=
  foldl_calm (fun t f => by
    unfold writeSetpoint; split
    · exact .of_same rfl rfl rfl
    · exact .refl t) _ s

theorem beginGroupStep_calm (g : Fin 4) (s : State) : Calm s (beginGroupStep g s) :=
  foldl_calm (fun t f => by
    unfold ageStart; split
    · exact .of_same rfl rfl rfl
    · exact .refl t) _ s

/-! ## The groups -/

theorem judgeHandOver_calm (g : Fin 4) (s : State) : Calm s (judgeHandOver g s) := by
  unfold judgeHandOver; dsimp only; split
  · exact .refl s
  · split
    · exact (setGroup_calm (by rfl)).trans (forEachFree_calm (takeBackFan_calm g) _)
    · exact (setGroup_calm (by rfl)).trans (forEachFree_calm (fun f t => changeFan_calm f _ t) _)

theorem floorRule_stack (mode : Mode) (r : GroupRecord) : (floorRule mode r).stack = r.stack := by
  unfold floorRule; split <;> rfl

theorem restaged_stack (s : State) (g : Fin 4) : (restaged s g).stack = s.groups[g].stack := by
  unfold restaged; exact floorRule_stack _ _

theorem restage_calm (g : Fin 4) (s : State) : Calm s (restage g s) :=
  (setGroup_calm (restaged_stack s g)).trans (judgeHandOver_calm g _)

theorem regroup_calm (s : State) : Calm s (regroup s) :=
  (forEachGroup_calm restage_calm s).trans (forEachGroup_calm recomputeRunSet_calm _)

theorem changeStack_grows (g : Fin 4) (cs : List Context) (s : State) : QueueGrows s (changeStack g cs s) := by
  have written : ∀ r, QueueGrows s (setGroup g r s) := fun r => .of_same rfl rfl
  exact (written _).trans (judgeHandOver_calm g _).grows

/-- A changed stack is the group's, and the other groups keep theirs. -/
theorem changeStack_stacks (g h : Fin 4) (cs : List Context) (s : State) :
    (changeStack g cs s).groups[h].stack = if g = h then cs else s.groups[h].stack := by
  rw [changeStack_groups]
  by_cases same : g = h
  · subst same; simp
  · have : ¬ g.val = h.val := fun k => same (Fin.ext k)
    simp [same, this]

theorem updateStage_calm (g : Fin 4) (s : State) : Calm s (updateStage g s) := by
  refine setGroup_calm ?_
  unfold stepStage
  split
  · rfl
  · split
    · rfl
    · split <;> rfl

/-! ## The zones -/

theorem replaceZone_calm (z : Fin 16) (new : ZoneRecord) (s : State) : Calm s (replaceZone z new s) := by
  have gas : ∀ old t, Calm t (postZoneState z old new t) := fun old t => by
    unfold postZoneState; split
    · exact .refl t
    · exact post_calm _ _ _ t
  have rising : ∀ old t, Calm t (postRising z old new t) := fun old t => by
    unfold postRising; split
    · exact .refl t
    · exact post_calm _ _ _ t
  have spill : ∀ old t, Calm t (postSpill z old new t) := fun old t => by
    unfold postSpill; split
    · exact .refl t
    · exact post_calm _ _ _ t
  have written : Calm s (setZone z new s) := .of_same rfl rfl rfl
  exact ((written.trans (gas _ _)).trans (rising _ _)).trans (spill _ _)

theorem writeZone_calm (z : Fin 16) (new : ZoneRecord) (s : State) : Calm s (writeZone z new s) := by
  refine Calm.trans ?_ (judgeAlarm_calm _)
  split
  · exact replaceZone_calm z new s
  · exact (replaceZone_calm z new s).trans (forEachGroup_calm restage_calm _)

theorem evaluateZone_calm (z : Fin 16) (s : State) : Calm s (evaluateZone z s) := by
  have gas : ∀ t, Calm t (evaluateGas z t) := fun t => by unfold evaluateGas; exact writeZone_calm z _ t
  have rising : ∀ t, Calm t (evaluateRising z t) := fun t => by unfold evaluateRising; exact writeZone_calm z _ t
  have contacts : ∀ t, Calm t (evaluateContacts z t) := fun t => by unfold evaluateContacts; exact writeZone_calm z _ t
  have spill : ∀ t, Calm t (evaluateSpill z t) := fun t => by unfold evaluateSpill; exact writeZone_calm z _ t
  exact (((gas s).trans (rising _)).trans (contacts _)).trans (spill _)

/-! ## The apply procedure -/

theorem applyChange_calm (c : Change) (s : State) : Calm s (applyChange c s) := by
  cases c with
  | binding i e =>
    show Calm s (applyBinding i e s)
    unfold applyBinding takeNotice; dsimp only
    split <;> exact .of_same rfl rfl rfl
  | zone z e =>
    show Calm s (applyZone z e s)
    have written : Calm s { s with tables := { s.tables with zones := s.tables.zones.set z (storedZone e) } } :=
      .of_same rfl rfl rfl
    unfold applyZone; dsimp only; split
    · exact .refl s
    · split
      · exact written
      · exact (written.trans (replaceZone_calm z _ _)).trans (forEachGroup_calm restage_calm _)
  | group g e =>
    show Calm s (applyGroup g e s)
    have written : Calm s { s with tables := { s.tables with groups := s.tables.groups.set g e } } := .of_same rfl rfl rfl
    unfold applyGroup; dsimp only; split
    · exact .refl s
    · split
      · exact written
      · exact ((written.trans (setGroup_calm (by rfl))).trans (restage_calm g _)).trans (recomputeRunSet_calm g _)
  | fan f e =>
    show Calm s (applyFan f e s)
    have written : Calm s { s with tables := { s.tables with fans := s.tables.fans.set f e } } := .of_same rfl rfl rfl
    have joins : ∀ t, Calm t (joinHandOver f e t) := fun t => by
      unfold joinHandOver; split
      · exact changeFan_calm _ _ t
      · exact .refl t
    have first : Calm s _ := ((written.trans (changeFan_calm f FanRecord.cleared _)).trans (joins _)).trans
      (recomputeRunSet_calm s.tables.fans[f].group _)
    unfold applyFan; dsimp only; split
    · exact .refl s
    · split
      · exact first
      · exact first.trans (recomputeRunSet_calm _ _)
  | device e => exact .of_same rfl rfl rfl

theorem applyRecords_calm (cs : List Change) (s : State) : Calm s (applyRecords cs s).1 :=
  applyRecords_induction (P := Calm s)
    (fun c t _ before => (before.trans (applyChange_calm c t)).trans (judgeAlarm_calm _))
    (fun _ _ _ _ before => before.trans (post_calm _ _ _ _)) cs s (.refl s)

theorem closeTables_calm (n : Nat) (s : State) : Calm s (closeTables n s) := by
  unfold closeTables; dsimp only; split
  · exact .refl s
  · exact (forEachGroup_calm recomputeRunSet_calm s).trans (.of_same rfl rfl rfl)

theorem applyPoint_calm (s : State) : Calm s (applyPoint s) := by
  rcases applyPoint_cases s with eq | ⟨-, -, -, eq⟩
  · rw [eq]; exact .refl s
  · rw [eq]
    have emptied : ∀ t : State, Calm t { t with changes := [] } := fun t => .of_same rfl rfl rfl
    exact ((((applyRecords_calm s.changes s).trans (closeTables_calm _ _)).trans (emptied _)).trans
      (post_calm _ _ _ _)).trans (judgeAll_calm _)

/-! ## Channels, the completion's work and the segment -/

theorem postHealth_calm (i : Fin 64) (old new : Health) (s : State) : Calm s (postHealth i old new s) := by
  unfold postHealth; split
  · exact post_calm _ _ _ s
  · exact .refl s

theorem ageChannels_calm (s : State) : Calm s (ageChannels s) := by
  have aged : ∀ v, Calm s { s with channels := v } := fun v => .of_same rfl rfl rfl
  exact (aged _).trans (forEachFree_calm (fun i => postHealth_calm i _ _) _)

theorem takePoint_calm (node : Nat) (status : Byte) (p : PointRecord) (s : State) : Calm s (takePoint node status s p) := by
  unfold takePoint; split
  · unfold takeSample; dsimp only; split
    · exact .refl s
    · exact (setChannel_calm _ _ s).trans (postHealth_calm _ _ _ _)
  · exact .refl s

theorem markSettling_calm (i : Fin 64) (s : State) : Calm s (markSettling i s) := by
  exact (setChannel_calm _ _ s).trans (postHealth_calm _ _ _ _)

theorem dispatchNext_calm (s : State) : Calm s (dispatchNext s) := by
  unfold dispatchNext; dsimp only; split
  · exact .of_same rfl rfl rfl
  · split <;> exact .of_same rfl rfl rfl

/-- A piece of work other than an expiry count leaves the stacks. -/
theorem doWork_calm (w : Work) (s : State) (other : ∀ g, w ≠ .countExpiry g) : Calm s (doWork w s) := by
  cases w with
  | age => exact ageChannels_calm s
  | evaluate z => exact evaluateZone_calm z s
  | endPass => exact judgeAll_calm s
  | stepBegins g => exact beginGroupStep_calm g s
  | countExpiry g => exact absurd rfl (other g)
  | stageUpdate g => exact updateStage_calm g s
  | startsStops g => exact (startsAndStops_calm g s).trans (judgeAlarm_calm _)
  | supervise g => exact superviseGroup_calm g s
  | setpoints g => exact (writeSetpoints_calm g s).trans (judgeFans_calm _)
  | countHold => unfold doWork; dsimp only; split <;> exact .of_same rfl rfl rfl
  | countWarmup => unfold doWork; dsimp only; split <;> exact .of_same rfl rfl rfl
  | countFaulted => unfold doWork; dsimp only; split <;> exact .of_same rfl rfl rfl
  | close =>
    unfold doWork; dsimp only; split
    · exact Calm.trans (t := { s with segment := .transit, dispatched := 0 }) (.of_same rfl rfl rfl) (dispatchNext_calm _)
    · exact .refl s

/-- An expiry count changes no more than the count of the top context (R92). -/
theorem countExpiry_stacks (g h : Fin 4) (s : State) :
    (countExpiry g s).groups[h].stack = s.groups[h].stack ∨
      ∃ c cs n, s.groups[h].stack = c :: cs ∧ (countExpiry g s).groups[h].stack = { c with expiry := n } :: cs := by
  unfold countExpiry; dsimp only; split
  · rename_i c cs top
    split
    · rw [groups_setGroup]; split
      · rename_i same; subst same; exact .inr ⟨c, cs, _, top, rfl⟩
      · exact .inl rfl
    · exact .inl rfl
  · exact .inl rfl

theorem doWork_grows (w : Work) (s : State) : QueueGrows s (doWork w s) := by
  by_cases count : ∃ g, w = .countExpiry g
  · obtain ⟨g, rfl⟩ := count
    show QueueGrows s (countExpiry g s)
    unfold countExpiry; dsimp only; split
    · split <;> exact .of_same rfl rfl
    · exact .refl s
  · exact (doWork_calm w s fun g is => count ⟨g, is⟩).grows

theorem runWork_grows (ws : List Work) (s : State) : QueueGrows s (runWork ws s) :=
  runWork_induction (P := QueueGrows s) (fun _ _ before => before.trans (.of_same rfl rfl))
    (fun w t _ before => before.trans (doWork_grows w t)) ws s (.refl s)

theorem changeSegment_calm (new : Segment) (s : State) : Calm s (changeSegment new s) := by
  have moved : Calm s { s with segment := new } := .of_same rfl rfl rfl
  unfold changeSegment; dsimp only; split
  · exact (moved.trans (post_calm _ _ _ _)).trans (.of_same rfl rfl rfl)
  · exact moved

theorem warmupSegment_calm (s : State) : Calm s (warmupSegment s) := by
  unfold warmupSegment; split
  · exact (changeSegment_calm _ s).trans (post_calm _ _ _ _)
  · exact changeSegment_calm _ s

theorem changeMode_calm (new : Mode) (s : State) : Calm s (changeMode new s) :=
  Calm.trans (t := { s with mode := new }) (.of_same rfl rfl rfl) (post_calm _ _ _ _)

theorem enterRun_calm (s : State) : Calm s (enterRun s) := by
  have counted : Calm s { s with warmupLeft := 0 } := .of_same rfl rfl rfl
  exact ((counted.trans (changeMode_calm _ _)).trans (regroup_calm _)).trans (judgeAll_calm _)

theorem enterWarmup_calm (s : State) : Calm s (enterWarmup s) := by
  have counted : ∀ t : State, Calm t { t with warmupLeft := t.tables.device.warmupCount } := fun t => .of_same rfl rfl rfl
  have cleared : ∀ t : State, Calm t (warmupZones t) := fun t => .of_same rfl rfl rfl
  have timed : ∀ t : State, Calm t (judgeAll { t with timerOn := true }) := fun t => .of_same rfl rfl rfl
  exact ((((((applyPoint_calm s).trans (counted _)).trans (changeMode_calm .warmup _)).trans (cleared _)).trans
    (regroup_calm _)).trans (warmupSegment_calm _)).trans (timed _)

theorem standbyPort_calm (s : State) : Calm s (standbyPort s) := by
  have port : Calm s { s with
      transaction := none, timerOn := false, deferredTick := false, countdown := 0, contention := 0, work := []
      pollList := s.pollList.map standbyNode, transits := s.transits.map cancelEntry } := .of_same rfl rfl rfl
  exact port.trans (changeSegment_calm .idle _)

theorem enterStandby_calm (s : State) : Calm s (enterStandby s) := by
  have counted : Calm s { s with warmupLeft := 0 } := .of_same rfl rfl rfl
  have port := (counted.trans (changeMode_calm .standby _)).trans (standbyPort_calm _)
  have records : ∀ (t : State) (c : Vector ChannelRecord 64) (z : Vector ZoneRecord 16) (f : Vector FanRecord 8),
      Calm t { t with channels := c, zones := z, groups := Vector.ofFn fun g => standbyGroup t.groups[g], fans := f } :=
    fun t c z f => ⟨.of_same rfl rfl, fun g => by simp [standbyGroup]⟩
  exact ((port.trans (records _ _ _ _)).trans (forEachGroup_calm recomputeRunSet_calm _)).trans (judgeAll_calm _)

/-! ## The sizes (O49) -/

/-- At most 4 contexts in every stack (R89). -/
def StacksFit (s : State) : Prop := ∀ g : Fin 4, s.groups[g].stack.length ≤ 4

theorem StacksFit.calm {s t : State} (fit : StacksFit s) (h : Calm s t) : StacksFit t := fun g => by
  rw [h.contexts g]; exact fit g

theorem StacksFit.changeStack {s : State} (fit : StacksFit s) {g : Fin 4} {cs : List Context} (short : cs.length ≤ 4) :
    StacksFit (changeStack g cs s) := fun h => by
  rw [changeStack_stacks]; split
  · exact short
  · exact fit h

theorem StacksFit.doWork {s : State} (fit : StacksFit s) (w : Work) : StacksFit (doWork w s) := by
  by_cases count : ∃ g, w = .countExpiry g
  · obtain ⟨g, rfl⟩ := count
    intro h
    show (countExpiry g s).groups[h].stack.length ≤ 4
    rcases countExpiry_stacks g h s with same | ⟨c, cs, n, was, now⟩
    · rw [same]; exact fit h
    · have := fit h
      rw [was] at this; rw [now]; exact this
  · exact fit.calm (doWork_calm w s fun g is => count ⟨g, is⟩)

/-- An expired context leaves its stack, the queue growing by its event (R92). -/
theorem expireTop_grows (g : Fin 4) (s : State) : QueueGrows s (expireTop g s) := by
  unfold expireTop; split
  · exact ((post_grows _ _ _ s).trans (changeStack_grows g _ _)).trans (judgeAlarm_calm _).grows
  · exact .refl s

theorem StacksFit.expireTop {s : State} (fit : StacksFit s) (g : Fin 4) : StacksFit (expireTop g s) := by
  unfold Machine.expireTop; split
  · rename_i c cs top
    have short : cs.length ≤ 4 := by have := fit g; rw [top, List.length_cons] at this; omega
    exact (StacksFit.changeStack (fit.calm (post_calm _ _ _ s)) short).calm (judgeAlarm_calm _)
  · exact fit

/-- The sizes of the lists and the stacks, with the law of the queue. -/
structure SizesKept (s : State) : Prop where
  events : EventsLaw s
  changes : s.changes.length ≤ 32
  contexts : StacksFit s
  transits : s.transits.length ≤ 4

theorem takeEntries_length (t : TableId) (index : Nat) (es : List (List Byte)) (list : List Change)
    (h : list.length ≤ 32) : (takeEntries t index es list).1.length ≤ 32 := by
  induction es generalizing index list with
  | nil => exact h
  | cons e es ih =>
    unfold takeEntries; split
    · exact h
    · split
      · refine ih _ _ ?_
        rw [List.length_append, List.length_singleton]; omega
      · exact h

theorem dispatchNext_transits (s : State) : (dispatchNext s).transits.length = s.transits.length := by
  unfold dispatchNext; dsimp only; split
  · rfl
  · split <;> exact takeWaiting_length s _

theorem doWork_transits (w : Work) (s : State) : (doWork w s).transits.length = s.transits.length := by
  have zone : ∀ {t : State}, ZoneFrame s t → t.transits.length = s.transits.length := fun h => by rw [h]
  cases w with
  | age =>
    show (ageChannels s).transits.length = _
    unfold ageChannels
    rw [(forEachFree_fanFrame (fun i => postHealth_fanFrame i _ _) _)]
  | evaluate z => exact zone (evaluateZone_zoneFrame z s)
  | endPass => rfl
  | stepBegins g => exact zone (beginGroupStep_fanFrame g s).group.zone
  | countExpiry g => exact zone (countExpiry_groupFrame g s).zone
  | stageUpdate g => rfl
  | startsStops g => exact zone ((startsAndStops_fanFrame g s).group.trans (judgeAlarm_groupFrame _)).zone
  | supervise g => exact zone (superviseGroup_groupFrame g s).zone
  | setpoints g => exact zone ((writeSetpoints_fanFrame g s).group.trans (judgeFans_groupFrame _)).zone
  | countHold => unfold doWork; dsimp only; split <;> rfl
  | countWarmup => unfold doWork; dsimp only; split <;> rfl
  | countFaulted => unfold doWork; dsimp only; split <;> rfl
  | close =>
    unfold doWork; dsimp only; split
    · exact dispatchNext_transits { s with segment := .transit, dispatched := 0 }
    · rfl

theorem restartRuntime_sizes (s : State) : SizesKept (restartRuntime s) := by
  refine ⟨?_, Nat.zero_le _, fun g => ?_, Nat.zero_le _⟩
  · exact (post_grows _ _ _ _).law ⟨Nat.zero_le _, nofun, Nat.zero_le _⟩
  · simp [restartRuntime, computedRunSets, GroupRecord.cleared]

/-- Every move keeps the sizes. -/
theorem SizesKept.move {c : Instr} {s₀ s t : State} (h : Move c s₀ s t) (before : SizesKept s) : SizesKept t := by
  obtain ⟨events, changes, contexts, transits⟩ := before
  -- a move that leaves the two lists
  have calm : ∀ {u : State}, Calm s u → u.changes = s.changes → u.transits = s.transits → SizesKept u :=
    fun quiet sameChanges sameTransits => ⟨quiet.grows.law events, by rw [sameChanges]; exact changes, contexts.calm quiet,
      by rw [sameTransits]; exact transits⟩
  cases h with
  | plain frame =>
    unfold PlainFrame at frame; rw [frame]
    exact calm (.of_same rfl rfl rfl) rfl rfl
  | post k n d s => exact calm (post_calm k n d s) rfl rfl
  | deviceReset straps rate s => exact restartRuntime_sizes _
  | restart s => exact restartRuntime_sizes _
  | applyPoint s =>
    have frame := applyPoint_applyFrame s
    refine ⟨(applyPoint_calm s).grows.law events, ?_, contexts.calm (applyPoint_calm s), by rw [frame]; exact transits⟩
    rcases applyPoint_cases s with eq | ⟨-, -, -, eq⟩
    · rw [eq]; exact changes
    · rw [eq]; exact Nat.zero_le _
  | takePoint node status p s =>
    exact calm (takePoint_calm node status p s) (by rw [takePoint_frame]) (by rw [takePoint_frame])
  | markSettling i s => exact calm (markSettling_calm i s) (by rw [markSettling_frame]) (by rw [markSettling_frame])
  | transits es s short =>
    refine ⟨events, changes, contexts, ?_⟩
    rcases short with short | short
    · exact short.trans transits
    · exact short
  | doWork w s =>
    exact ⟨(doWork_grows w s).law events, by rw [doWork_workFrame w s]; exact changes, contexts.doWork w,
      (doWork_transits w s).le.trans transits⟩
  | expireTop g s =>
    have frame := expireTop_groupFrame g s
    exact ⟨(expireTop_grows g s).law events, by rw [frame]; exact changes, contexts.expireTop g, by rw [frame]; exact transits⟩
  | expireHold s =>
    exact ⟨(post_grows _ _ _ _).law (QueueGrows.law (.of_same rfl rfl) events), Nat.zero_le _, contexts, transits⟩
  | enterRun s => exact calm (enterRun_calm s) (by rw [enterRun_frame]) (by rw [enterRun_frame])
  | discard s => exact ⟨events, Nat.zero_le _, contexts, transits⟩
  | append t index entries s => exact ⟨events, takeEntries_length _ _ _ _ changes, contexts, transits⟩
  | enterWarmup s =>
    have applied : (Machine.applyPoint s).changes.length ≤ 32 := by
      rcases applyPoint_cases s with eq | ⟨-, -, -, eq⟩
      · rw [eq]; exact changes
      · rw [eq]; exact Nat.zero_le _
    exact ⟨(enterWarmup_calm s).grows.law events, by rw [enterWarmup_frame]; exact applied,
      contexts.calm (enterWarmup_calm s), by rw [enterWarmup_frame, applyPoint_applyFrame s]; exact transits⟩
  | enterStandby s =>
    exact ⟨(enterStandby_calm s).grows.law events, by rw [enterStandby_frame]; exact changes,
      contexts.calm (enterStandby_calm s), by rw [enterStandby_frame]; simpa using transits⟩
  | push g x s room =>
    have frame := changeStack_groupFrame g (x :: s.groups[g].stack) s
    refine ⟨(changeStack_grows g _ s).law events, ?_, contexts.changeStack (by rw [List.length_cons]; omega), ?_⟩
    · show (changeStack g _ s).changes.length ≤ 32
      rw [frame]; exact changes
    · show (changeStack g _ s).transits.length ≤ 4
      rw [frame]; exact transits
  | pop g x xs s top =>
    have frame := changeStack_groupFrame g xs s
    have short : xs.length ≤ 4 := by have := contexts g; rw [top, List.length_cons] at this; omega
    refine ⟨(changeStack_grows g _ s).law events, ?_, contexts.changeStack short, ?_⟩
    · show (changeStack g _ s).changes.length ≤ 32
      rw [frame]; exact changes
    · show (changeStack g _ s).transits.length ≤ 4
      rw [frame]; exact transits
  | fanReset f s =>
    have frame := ((changeFan_fanFrame f { s.fans[f] with state := .off, reason := .none } s).group.trans
      (recomputeRunSet_groupFrame (fanGroup s f) _)).trans (judgeFans_groupFrame _)
    exact calm (((changeFan_calm f _ s).trans (recomputeRunSet_calm _ _)).trans (judgeFans_calm _))
      (by rw [frame]) (by rw [frame])
  | fetch s =>
    obtain ⟨short, repeats, -⟩ := events
    exact ⟨⟨by rw [List.length_drop]; exact (Nat.sub_le _ _).trans short, fun e mem => repeats e (List.mem_of_mem_drop mem), Nat.zero_le _⟩,
      changes, contexts, transits⟩
  | _ => exact calm (.of_same rfl rfl rfl) rfl rfl

/-- Settles O49: every move keeps the queue's law and the sizes. -/
theorem everyStepKeepsTheSizes : Obligations.EveryStepKeepsTheSizes := by
  intro s t events sizes h
  obtain ⟨changes, contexts, transits⟩ := sizes
  have kept : SizesKept t := step_keeps (fun _ _ k => ⟨k.events, k.changes, k.contexts, k.transits⟩)
    (fun _ _ _ _ => SizesKept.move) h ⟨events, changes, contexts, transits⟩
  exact ⟨kept.events, kept.changes, kept.contexts, kept.transits⟩

end Sys2Proof.Machine
end

section
/-! PROOFS. The channel conditioner (chapter 2): conditioning and smoothing (O42), a sample (O43), aging (O44), and the ranges of
the filtered and conditioned values over every step (O50). -/

namespace Sys2Proof.Machine

/-! ## Conditioning and smoothing (2.2) -/

/-- R19, R1: the conditioned value of an entry within its ranges and a raw code. -/
theorem conditionRaw_bounds {b : Binding} {raw : Nat} (range : b.inRange = true) (code : raw ≤ 4095) :
    -8175 ≤ conditionRaw b raw ∧ conditionRaw b raw ≤ 73694 := by
  simp only [Binding.inRange, decide_eq_true_eq] at range
  obtain ⟨-, -, low, high, one, span, -⟩ := range
  have least : -511 * 4095 ≤ ((raw : Int) - b.zeroOffset) * b.span := by nlinarith
  have most : ((raw : Int) - b.zeroOffset) * b.span ≤ 4607 * 4095 := by nlinarith
  unfold conditionRaw; omega

theorem smoothStep_of_pos {d : Int} (k : Nat) (pos : 0 < d) : 1 ≤ smoothStep d k ∧ smoothStep d k ≤ d := by
  have nonneg : 0 ≤ d.tdiv (2 ^ k) := Int.tdiv_nonneg pos.le (by positivity)
  have le : d.tdiv (2 ^ k) ≤ d := Int.tdiv_le_self _ pos.le
  unfold smoothStep; dsimp only
  rw [if_pos pos]
  split <;> omega

theorem smoothStep_neg (d : Int) (k : Nat) : smoothStep (-d) k = -smoothStep d k := by
  unfold smoothStep; dsimp only
  rw [Int.neg_tdiv]
  split
  · rename_i zero
    rw [if_pos (neg_eq_zero.mp zero)]
    split_ifs <;> omega
  · rename_i some
    rw [if_neg fun zero => some (neg_eq_zero.mpr zero)]

theorem smoothStep_of_neg {d : Int} (k : Nat) (neg : d < 0) : d ≤ smoothStep d k ∧ smoothStep d k ≤ -1 := by
  have flipped := smoothStep_neg (-d) k
  have pos := smoothStep_of_pos k (Int.neg_pos_of_neg neg)
  rw [neg_neg] at flipped
  omega

theorem smoothStep_zero (k : Nat) : smoothStep 0 k = 0 := by simp [smoothStep]

/-- R21: the quotient truncated toward zero, or one su toward the stored value. -/
theorem smoothStep_eq (d : Int) (k : Nat) :
    smoothStep d k = if d.tdiv (2 ^ k) ≠ 0 then d.tdiv (2 ^ k) else d.sign := by
  unfold smoothStep; dsimp only
  split
  · rename_i zero
    rw [if_neg (not_not.mpr zero)]
    rcases lt_trichotomy d 0 with neg | rfl | pos
    · rw [if_neg (by omega), if_pos neg, Int.sign_eq_neg_one_of_neg neg]
    · rfl
    · rw [if_pos pos, Int.sign_eq_one_of_pos pos]
  · rfl

/-- A step never takes the filtered value below zero. -/
theorem smooth_toInt (f c k : Nat) : (smooth f c k : Int) = f + smoothStep ((c : Int) - f) k := by
  unfold smooth
  rw [Int.toNat_of_nonneg]
  rcases lt_trichotomy ((c : Int) - f) 0 with neg | zero | pos
  · have := smoothStep_of_neg k neg; omega
  · rw [zero, smoothStep_zero]; omega
  · have := smoothStep_of_pos k pos; omega

theorem smooth_rises {f c : Nat} (k : Nat) (below : f < c) : f < smooth f c k ∧ smooth f c k ≤ c := by
  have step := smoothStep_of_pos (d := (c : Int) - f) k (by omega)
  have value := smooth_toInt f c k
  omega

theorem smooth_falls {f c : Nat} (k : Nat) (above : c < f) : c ≤ smooth f c k ∧ smooth f c k < f := by
  have step := smoothStep_of_neg (d := (c : Int) - f) k (by omega)
  have value := smooth_toInt f c k
  omega

theorem smooth_self (c k : Nat) : smooth c c k = c := by
  have value := smooth_toInt c c k
  rw [sub_self, smoothStep_zero] at value; omega

/-- R21: with shift 0 the filtered value is the stored one. -/
theorem smooth_unshifted (f c : Nat) : smooth f c 0 = c := by
  have value := smooth_toInt f c 0
  rw [smoothStep_eq, pow_zero, Int.tdiv_one] at value
  split at value
  · omega
  · rename_i zero
    have zero := not_not.mp zero
    rw [zero, Int.sign_zero] at value; omega

theorem smooth_le {f c n : Nat} (k : Nat) (hf : f ≤ n) (hc : c ≤ n) : smooth f c k ≤ n := by
  rcases Nat.lt_trichotomy f c with below | rfl | above
  · exact (smooth_rises k below).2.trans hc
  · rw [smooth_self]; exact hf
  · exact (smooth_falls k above).2.le.trans hf

/-- R21: each step takes the filtered value nearer, so that a constant value is reached. -/
theorem smooth_reaches (f c k : Nat) : ∃ m : Nat, (fun x => smooth x c k)^[m] f = c := by
  induction h : (c - f) + (f - c) using Nat.strong_induction_on generalizing f with
  | _ n ih =>
    by_cases same : f = c
    · exact ⟨0, same⟩
    · have nearer : (c - smooth f c k) + (smooth f c k - c) < n := by
        rcases Nat.lt_or_gt_of_ne same with below | above
        · have := smooth_rises k below; omega
        · have := smooth_falls k above; omega
      obtain ⟨m, reached⟩ := ih _ nearer (smooth f c k) rfl
      exact ⟨m + 1, by rw [Function.iterate_succ_apply]; exact reached⟩

/-- Settles O42. -/
theorem conditioningAndSmoothing : Obligations.ConditioningAndSmoothing := by
  refine ⟨fun b raw range code => ?_, fun c => ?_, fun f c k => ?_⟩
  · have bounds := conditionRaw_bounds range code
    refine ⟨?_, ?_, bounds⟩
    · unfold conditionRaw; omega
    · unfold conditionRaw; omega
  · unfold limit
    refine ⟨fun h => if_pos h, fun h h' => ?_, fun h h' => ?_, fun h => ?_⟩
    · rw [if_neg (by omega), if_pos h']
    · rw [if_neg (by omega), if_neg (by omega), if_pos h']
    · rw [if_neg (by omega), if_neg (by omega), if_neg (by omega)]
  · refine ⟨?_, ?_, smooth_rises k, smooth_falls k, ?_, smooth_reaches f c k⟩
    · rw [smooth_toInt, smoothStep_eq]
    · rintro rfl; exact smooth_unshifted f c
    · rintro rfl; exact smooth_self f k

/-! ## A sample (2.3) -/

theorem Health.isHealthy_iff (h : Health) : h.isHealthy = true ↔ h = .good ∨ h = .held := by
  cases h <;> simp [Health.isHealthy]

theorem usableHealth_healthy {n : Nat} {c : ChannelRecord} (healthy : c.health = .good ∨ c.health = .held) :
    usableHealth n c false = (.good, c.settleLeft) := by
  rcases healthy with h | h <;> simp [usableHealth, h]

/-- R26, R27: any other channel settles, by its count left or from the zone's. -/
theorem usableHealth_settles {n : Nat} {c : ChannelRecord} (other : ¬ (c.health = .good ∨ c.health = .held)) (some : 1 ≤ n)
    (left : c.health = .settling → 1 ≤ c.settleLeft) :
    let before := if c.health = .settling then c.settleLeft else n
    usableHealth n c false = (if before = 1 then .good else .settling, before - 1) := by
  have count : ∀ k : Nat, 1 ≤ k → (if k ≤ 1 then (Health.good, 0) else (.settling, k - 1)) =
      (if k = 1 then Health.good else .settling, k - 1) := fun k one => by
    by_cases h : k = 1
    · subst h; rfl
    · rw [if_neg (by omega), if_neg h]
  cases h : c.health with
  | good => exact absurd (.inl h) other
  | held => exact absurd (.inr h) other
  | settling => simpa [usableHealth, h] using count c.settleLeft (left h)
  | _ => simpa [usableHealth, h] using count n some

theorem sampleRecord_fault (b : Binding) (n : Nat) (c : ChannelRecord) (raw : Nat) (warm : Bool) :
    sampleRecord b n c raw warm true =
      { c with raw := raw, mark := if c.mark = .usable then .usable else .unusable, health := .nodeFault } := rfl

theorem sampleRecord_contact {b : Binding} (contact : b.kind = .contact) (n : Nat) (c : ChannelRecord) (raw : Nat)
    (warm : Bool) :
    sampleRecord b n c raw warm false =
      { c with raw := raw, mark := .usable, age := 0, contact := closureOf raw, health := (usableHealth n c warm).1
               settleLeft := (usableHealth n c warm).2 } := by
  simp [sampleRecord, contact]

theorem sampleRecord_under {b : Binding} (other : b.kind ≠ .contact) {raw : Nat} (under : conditionRaw b raw < -50)
    (n : Nat) (c : ChannelRecord) (warm : Bool) :
    sampleRecord b n c raw warm false =
      { c with raw := raw, mark := if c.mark = .usable then .usable else .unusable, health := .underrange } := by
  have none : limit (conditionRaw b raw) = .none := by unfold limit; rw [if_pos under]
  simp [sampleRecord, other, none]

/-- R20: a value that is not underrange is limited to 0..1000, with its two flags. -/
theorem limit_of_ge {c : Int} (h : -50 ≤ c) :
    ∃ l, limit c = some l ∧ (l.value : Int) = max 0 (min 1000 c) ∧ (l.lowClamp = true ↔ c < 0) ∧
      (l.overrange = true ↔ 1000 < c) := by
  unfold limit
  rw [if_neg (by omega)]
  split
  · exact ⟨_, rfl, by dsimp only; omega, by simpa, by simp; omega⟩
  · split
    · exact ⟨_, rfl, by dsimp only; omega, by simp; omega, by simp; omega⟩
    · exact ⟨_, rfl, by dsimp only; omega, by simp; omega, by simp; omega⟩

theorem sampleRecord_usable {b : Binding} (other : b.kind ≠ .contact) {raw : Nat} {l : Limited}
    (limited : limit (conditionRaw b raw) = some l) (n : Nat) (c : ChannelRecord) (warm : Bool) :
    sampleRecord b n c raw warm false =
      { c with raw := raw, mark := .usable, age := 0, conditioned := l.value, lowClamp := l.lowClamp
               overrange := l.overrange
               filtered := if seeds c warm then l.value else smooth c.filtered l.value b.shift
               health := (usableHealth n c warm).1, settleLeft := (usableHealth n c warm).2 } := by
  simp [sampleRecord, other, limited]

/-- R26 to R28: health and settle count after a usable sample. -/
theorem usableHealth_spec {n : Nat} {c : ChannelRecord} (warm : Bool) (some : 1 ≤ n)
    (left : c.health = .settling → 1 ≤ c.settleLeft) :
    (warm = true → (usableHealth n c warm).1 = .settling ∧ (usableHealth n c warm).2 = n) ∧
    (warm = false → c.health = .good ∨ c.health = .held → (usableHealth n c warm).1 = .good) ∧
    (warm = false → ¬ (c.health = .good ∨ c.health = .held) →
      let before := if c.health = .settling then c.settleLeft else n
      (usableHealth n c warm).2 = before - 1 ∧ (usableHealth n c warm).1 = if before = 1 then .good else .settling) := by
  refine ⟨?_, ?_, ?_⟩
  · rintro rfl; exact ⟨rfl, rfl⟩
  · rintro rfl healthy; rw [usableHealth_healthy healthy]
  · rintro rfl other; rw [usableHealth_settles other some left]; exact ⟨rfl, rfl⟩

theorem seeds_iff (c : ChannelRecord) (warm : Bool) :
    seeds c warm = false ↔ warm = false ∧ (c.health = .good ∨ c.health = .held) := by
  rw [← Health.isHealthy_iff]; simp [seeds]

/-- Settles O43, by the four forms of a sample: faulted, of a contact, underrange and usable. -/
theorem samplesDecideTheHealth : Obligations.SamplesDecideTheHealth := by
  intro b n c raw warm fault active some left c' under
  have health := usableHealth_spec (n := n) warm some left
  cases fault with
  | true =>
    have eq : c' = _ := sampleRecord_fault b n c raw warm
    rw [eq]
    exact ⟨rfl, fun _ => ⟨rfl, rfl, rfl, rfl, rfl, rfl, rfl, rfl, rfl⟩, nofun⟩
  | false =>
    by_cases contact : b.kind = .contact
    · have eq : c' = _ := sampleRecord_contact contact n c raw warm
      have usable : ¬ under := fun h => h.1 contact
      rw [eq]
      refine ⟨rfl, fun h => absurd h (by simp [usable]), fun _ _ => ⟨rfl, rfl, ?_⟩⟩
      obtain ⟨warmed, smoothed, settled⟩ := health
      exact ⟨warmed, smoothed, settled, fun _ => ⟨rfl, rfl, rfl⟩, fun other => absurd contact other⟩
    · by_cases low : conditionRaw b raw < -50
      · have eq : c' = _ := sampleRecord_under contact low n c warm
        rw [eq]
        exact ⟨rfl, fun _ => ⟨rfl, rfl, rfl, rfl, rfl, rfl, rfl, rfl, rfl⟩, fun _ h => absurd ⟨contact, low⟩ h⟩
      · obtain ⟨l, limited, value, clamp, ranged⟩ := limit_of_ge (c := conditionRaw b raw) (by omega)
        have eq : c' = _ := sampleRecord_usable contact limited n c warm
        have usable : ¬ under := fun h => low h.2
        rw [eq]
        refine ⟨rfl, fun h => absurd h (by simp [usable]), fun _ _ => ⟨rfl, rfl, ?_⟩⟩
        obtain ⟨warmed, smoothed, settled⟩ := health
        refine ⟨warmed, smoothed, settled, fun is => absurd is contact, fun _ => ⟨rfl, value, clamp, ranged, ?_⟩⟩
        dsimp only
        by_cases smooths : warm = false ∧ (c.health = .good ∨ c.health = .held)
        · rw [if_pos smooths, (seeds_iff c warm).mpr smooths]; rfl
        · have seed : seeds c warm = true := by simpa using mt (seeds_iff c warm).mp smooths
          rw [if_neg smooths, seed]; rfl

/-! ## Aging (2.5) -/

/-- R33: the health of a channel that took no sample in the cycle. -/
theorem unheard_health (l age : Nat) (h : Health) :
    (if h = .stale then .stale else unheardHealth l age h) =
      if h = .stale ∨ l ≤ age then .stale else if h = .good ∨ h = .held then .held else h := by
  unfold unheardHealth
  by_cases aged : l ≤ age
  · simp [aged]
  · cases h <;> simp [aged]

/-- R35: a change of health is posted, but one between GOOD and HELD. -/
theorem healthPosts_iff (old new : Health) :
    healthPosts old new = true ↔ old ≠ new ∧ ¬ ((old = .good ∨ old = .held) ∧ (new = .good ∨ new = .held)) := by
  rw [← Health.isHealthy_iff, ← Health.isHealthy_iff]
  simp only [healthPosts, Bool.and_eq_true, bne_iff_ne, Bool.not_eq_true', Bool.and_eq_false_iff]
  cases old.isHealthy <;> cases new.isHealthy <;> simp

theorem postHealth_channels (i : Fin 64) (old new : Health) (s : State) :
    (postHealth i old new s).channels = s.channels := by
  unfold postHealth; split <;> rfl

/-- What a turn posts, whatever state it finds, is posted by all the turns. -/
theorem forEachFree_posted {α : Type} {xs : List α} {f : α → State → State} (grows : ∀ x t, QueueGrows t (f x t)) {x : α}
    (mem : x ∈ xs) {k : EventKind} {n : Nat} {d : Half} (posts : ∀ t, Posted t (f x t) k n d) (s : State) :
    Posted s (forEachFree xs f s) k n d := by
  have rest : ∀ (ys : List α) (t : State), QueueGrows t (ys.foldl (fun t x => f x t) t) := by
    intro ys
    induction ys with
    | nil => exact .refl
    | cons y ys ih => exact fun t => (grows y t).trans (ih _)
  have all : ∀ (ys : List α) (t : State), x ∈ ys → Posted t (ys.foldl (fun t x => f x t) t) k n d := by
    intro ys
    induction ys with
    | nil => exact fun _ no => by cases no
    | cons y ys ih =>
      intro t found
      rcases List.mem_cons.mp found with rfl | later
      · exact (posts t).then (rest ys _)
      · exact (ih _ later).after (grows y t)
  unfold forEachFree
  refine Posted.after ?_ (all _ _ ((freeOrder_perm _ _).mem_iff.mpr mem))
  rw [drawn_eq]; exact .of_same rfl rfl

theorem ageChannels_channels (s : State) (i : Fin 64) :
    (ageChannels s).channels[i] = ageRecord (channelZone s i).staleLimit s.channels[i] := by
  unfold ageChannels
  rw [forEachFree_fanFrame (fun i => postHealth_fanFrame i _ _) _]
  simp

theorem ageChannels_frame (s : State) :
    ageChannels s = { s with
      channels := (ageChannels s).channels, events := (ageChannels s).events, lost := (ageChannels s).lost
      draws := (ageChannels s).draws } := by
  have posts : ∀ (f : Fin 64 → State → State) (xs : List (Fin 64)) (t : State),
      (∀ i u, f i u = { u with events := (f i u).events, lost := (f i u).lost }) →
      forEachFree xs f t = { t with
        events := (forEachFree xs f t).events, lost := (forEachFree xs f t).lost, draws := (forEachFree xs f t).draws } :=
    fun f xs t turn => forEachFree_induction
      (P := fun u => u = { t with events := u.events, lost := u.lost, draws := u.draws }) (fun _ => rfl)
      fun i _ u before => by rw [turn i u, before]
  unfold ageChannels
  rw [posts _ _ _ fun i u => by unfold postHealth; split <;> rfl]

/-- R35: the change of a channel's health in an aging is posted, but one between GOOD and HELD. -/
theorem ageChannels_posted (s : State) (i : Fin 64)
    (changed : healthPosts s.channels[i].health (ageChannels s).channels[i].health = true) :
    Posted s (ageChannels s) .channelHealth i.val
      (detailOf (ageChannels s).channels[i].health.code s.channels[i].health.code) := by
  rw [ageChannels_channels] at changed ⊢
  unfold ageChannels
  have written : ∀ v, QueueGrows s { s with channels := v } := fun v => .of_same rfl rfl
  refine Posted.after (written _) (forEachFree_posted (x := i) (fun j t => (postHealth_calm j _ _ t).grows) ?_ (fun t => ?_) _)
  · simp only [List.mem_filter, List.mem_finRange, true_and]
    simpa using changed
  · unfold postHealth
    rw [if_pos (by simpa using changed)]
    simpa using posted_post _ _ _ t

theorem runWork_cons {w : Work} {s : State} (going : endsCount s w = false) (ws : List Work) :
    runWork (w :: ws) s = runWork ws (doWork w s) := by
  simp [runWork, going]

/-- Settles O44. -/
theorem agingDecidesTheHealth : Obligations.AgingDecidesTheHealth := by
  refine ⟨fun l c => ?_, fun s ws => ⟨ageChannels s, runWork_cons rfl ws, ageChannels_frame s, fun i => ?_⟩⟩
  · intro c'
    refine ⟨fun off => if_pos off, fun on => ?_⟩
    have eq : c' = _ := if_neg on
    rw [eq]
    cases c.mark with
    | usable => exact ⟨rfl, rfl, rfl, rfl, rfl, rfl, rfl, rfl, fun _ => ⟨rfl, rfl⟩, nofun, nofun⟩
    | unusable => exact ⟨rfl, rfl, rfl, rfl, rfl, rfl, rfl, rfl, nofun, fun _ => ⟨rfl, rfl⟩, nofun⟩
    | none =>
      exact ⟨rfl, rfl, rfl, rfl, rfl, rfl, rfl, rfl, nofun, nofun, fun _ => ⟨rfl, unheard_health l _ c.health⟩⟩
  · exact ⟨ageChannels_channels s i, fun differ posts =>
      ageChannels_posted s i ((healthPosts_iff _ _).mpr ⟨differ, posts⟩)⟩

/-! ## The ranges of the values (O50) -/

/-- R20, R21: the filtered and the conditioned value of a channel lie within 0..1000. -/
def ValuesInRange (c : ChannelRecord) : Prop := c.filtered ≤ 1000 ∧ c.conditioned ≤ 1000

theorem limit_le {c : Int} {l : Limited} (h : limit c = some l) : l.value ≤ 1000 := by
  have ge : -50 ≤ c := by
    by_contra low
    unfold limit at h; rw [if_pos (by omega)] at h; cases h
  obtain ⟨l', eq, value, -⟩ := limit_of_ge ge
  rw [h] at eq; cases eq; omega

theorem ValuesInRange.sample {c : ChannelRecord} (h : ValuesInRange c) (b : Binding) (n raw : Nat) (warm fault : Bool) :
    ValuesInRange (sampleRecord b n c raw warm fault) := by
  cases fault with
  | true => exact h
  | false =>
    by_cases contact : b.kind = .contact
    · rw [sampleRecord_contact contact]; exact h
    · cases limited : limit (conditionRaw b raw) with
      | none =>
        have low : conditionRaw b raw < -50 := by
          by_contra ge
          obtain ⟨l, eq, -⟩ := limit_of_ge (c := conditionRaw b raw) (by omega)
          rw [limited] at eq; cases eq
        rw [sampleRecord_under contact low]; exact h
      | some l =>
        rw [sampleRecord_usable contact limited]
        refine ⟨?_, limit_le limited⟩
        dsimp only; split
        · exact limit_le limited
        · exact smooth_le _ h.1 (limit_le limited)

theorem ValuesInRange.settle {c : ChannelRecord} (h : ValuesInRange c) (n : Nat) : ValuesInRange (settleRecord n c) := by
  unfold settleRecord; split <;> exact h

theorem ValuesInRange.age {c : ChannelRecord} (h : ValuesInRange c) (l : Nat) : ValuesInRange (ageRecord l c) := by
  unfold ageRecord; split
  · exact h
  · dsimp only; split <;> exact h

theorem ValuesInRange.restarted (h : Health) : ValuesInRange (ChannelRecord.restarted h) := ⟨Nat.zero_le _, Nat.zero_le _⟩

theorem FilteredLaw.congr {s t : State} (h : t.channels = s.channels) (law : FilteredLaw s) : FilteredLaw t := by
  unfold FilteredLaw; rw [h]; exact law

theorem FilteredLaw.setChannel {s : State} (law : FilteredLaw s) {i : Fin 64} {r : ChannelRecord} (h : ValuesInRange r) :
    FilteredLaw (setChannel i r s) := fun j => by
  rw [channels_setChannel]; split
  · exact h
  · exact law j

theorem FilteredLaw.restarted {s : State} {ts : Tables} (h : s.channels = restartedChannels ts) : FilteredLaw s := fun i => by
  rw [h]
  have get : (restartedChannels ts)[i] = ChannelRecord.restarted (if ts.bindings[i].valid then .unseen else .disabled) := by
    simp [restartedChannels]
  rw [get]; exact ValuesInRange.restarted _

theorem FilteredLaw.takePoint {s : State} (law : FilteredLaw s) (node : Nat) (status : Byte) (p : PointRecord) :
    FilteredLaw (takePoint node status s p) := by
  unfold Machine.takePoint; split
  · unfold takeSample; dsimp only; split
    · exact law
    · exact (law.setChannel (ValuesInRange.sample (law _) _ _ _ _ _)).congr (postHealth_channels _ _ _ _)
  · exact law

theorem FilteredLaw.markSettling {s : State} (law : FilteredLaw s) (i : Fin 64) : FilteredLaw (markSettling i s) :=
  (law.setChannel (ValuesInRange.settle (law i) _)).congr (postHealth_channels _ _ _ _)

theorem FilteredLaw.ageChannels {s : State} (law : FilteredLaw s) : FilteredLaw (ageChannels s) := fun i => by
  rw [ageChannels_channels]; exact ValuesInRange.age (law i) _

theorem FilteredLaw.applyBinding {s : State} (law : FilteredLaw s) (i : Fin 64) (new : Binding) :
    FilteredLaw (applyBinding i new s) := by
  unfold Machine.applyBinding takeNotice; dsimp only
  have moved : ∀ (ts : Tables) (cs), FilteredLaw { s with tables := ts, chains := cs } := fun _ _ => law
  split
  · exact (moved _ _).setChannel (.restarted _)
  · exact (moved _ _).setChannel (.restarted _)
  · exact (moved _ _).setChannel (ValuesInRange.settle (law i) _)
  · exact law

/-- A record of another table leaves the channels. -/
theorem applyChange_channels (c : Change) (s : State) (other : c.table ≠ .bindings) :
    (applyChange c s).channels = s.channels := by
  have zone : ∀ {u v : State}, ZoneFrame u v → v.channels = u.channels := fun h => by rw [h]
  cases c with
  | binding i e => exact absurd rfl other
  | zone z e =>
    show (applyZone z e s).channels = _
    unfold applyZone; dsimp only
    split
    · rfl
    · split
      · rfl
      · rw [zone ((replaceZone_zoneFrame z _ _).trans (forEachGroup_groupFrame restage_groupFrame _).zone)]
  | group g e =>
    show (applyGroup g e s).channels = _
    unfold applyGroup; dsimp only
    split
    · rfl
    · split
      · rfl
      · rw [zone ((restage_groupFrame g _).trans (recomputeRunSet_groupFrame g _)).zone]; rfl
  | fan f e =>
    show (applyFan f e s).channels = _
    have join : ∀ t, GroupFrame t (joinHandOver f e t) := fun t => by
      unfold joinHandOver; split
      · exact (manualFan_fanFrame f t).group
      · rfl
    unfold applyFan; dsimp only
    split
    · rfl
    · split
      · rw [zone (((changeFan_fanFrame f _ _).group.trans (join _)).trans (recomputeRunSet_groupFrame _ _)).zone]
      · rw [zone ((((changeFan_fanFrame f _ _).group.trans (join _)).trans (recomputeRunSet_groupFrame _ _)).trans
          (recomputeRunSet_groupFrame _ _)).zone]
  | device e => rfl

theorem FilteredLaw.applyPoint {s : State} (law : FilteredLaw s) : FilteredLaw (applyPoint s) := by
  rcases applyPoint_cases s with eq | ⟨-, -, -, eq⟩
  · rw [eq]; exact law
  · have applied : FilteredLaw (applyRecords s.changes s).1 := by
      refine applyRecords_induction (fun c t _ before => ?_) (fun _ _ _ _ before => before) _ s law
      by_cases binding : c.table = .bindings
      · cases c with
        | binding i e => exact before.applyBinding i e
        | _ => cases binding
      · exact before.congr (applyChange_channels c t binding)
    have closed : ∀ n (t : State), (closeTables n t).channels = t.channels := fun n t => by
      unfold closeTables; dsimp only; split
      · rfl
      · show (forEachGroup (List.finRange 4) recomputeRunSet t).channels = _
        rw [forEachGroup_groupFrame recomputeRunSet_groupFrame t]
    rw [eq]; exact applied.congr (closed _ _)

theorem FilteredLaw.doWork {s : State} (law : FilteredLaw s) (w : Work) : FilteredLaw (doWork w s) := by
  have zone : ∀ {t : State}, ZoneFrame s t → FilteredLaw t := fun h => law.congr (by rw [h])
  cases w with
  | age => exact law.ageChannels
  | evaluate z => exact zone (evaluateZone_zoneFrame z s)
  | endPass => exact law
  | stepBegins g => exact zone (beginGroupStep_fanFrame g s).group.zone
  | countExpiry g => exact zone (countExpiry_groupFrame g s).zone
  | stageUpdate g => exact law
  | startsStops g => exact zone ((startsAndStops_fanFrame g s).group.trans (judgeAlarm_groupFrame _)).zone
  | supervise g => exact zone (superviseGroup_groupFrame g s).zone
  | setpoints g => exact zone ((writeSetpoints_fanFrame g s).group.trans (judgeFans_groupFrame _)).zone
  | countHold => unfold Machine.doWork; dsimp only; split <;> exact law
  | countWarmup => unfold Machine.doWork; dsimp only; split <;> exact law
  | countFaulted => unfold Machine.doWork; dsimp only; split <;> exact law
  | close =>
    unfold Machine.doWork; dsimp only; split
    · refine law.congr ?_
      unfold beginDispatch dispatchNext; dsimp only; split
      · rfl
      · split <;> rfl
    · exact law

/-- Every move keeps the ranges of the values. -/
theorem FilteredLaw.move {c : Instr} {s₀ s t : State} (h : Move c s₀ s t) (law : FilteredLaw s) : FilteredLaw t := by
  have group : ∀ {u : State}, GroupFrame s u → FilteredLaw u := fun frame => law.congr (by rw [frame])
  cases h with
  | plain frame => unfold PlainFrame at frame; rw [frame]; exact law
  | deviceReset straps rate s => exact .restarted rfl
  | restart s => exact .restarted rfl
  | applyPoint s => exact law.applyPoint
  | takePoint node status p s => exact law.takePoint node status p
  | markSettling i s => exact law.markSettling i
  | doWork w s => exact law.doWork w
  | expireTop g s => exact group (expireTop_groupFrame g s)
  | enterRun s => exact law.congr (by rw [enterRun_frame])
  | enterWarmup s => exact law.applyPoint.congr (by rw [enterWarmup_frame])
  | enterStandby s => exact .restarted (ts := s.tables) (by rw [enterStandby_frame])
  | push g x s => exact group ((changeStack_groupFrame g _ s).trans (judgeVent_groupFrame _))
  | pop g x xs s => exact group ((changeStack_groupFrame g _ s).trans (judgeVent_groupFrame _))
  | fanReset f s =>
    exact group (((changeFan_fanFrame f _ s).group.trans (recomputeRunSet_groupFrame _ _)).trans (judgeFans_groupFrame _))
  | _ => exact law

/-- Settles O50: every move keeps the ranges of the values. -/
theorem everyStepKeepsFilteredValuesInRange : Obligations.EveryStepKeepsFilteredValuesInRange := fun _ _ law h =>
  step_keeps (P := FilteredLaw) (fun _ _ => id) (fun _ _ _ _ => FilteredLaw.move) h law

end Sys2Proof.Machine
end

section
/-! PROOFS. The fan supervisor (chapter 6): what turns over several fans leave of each fan and post, and with it the fans' side of
starts and stops, of a recomputed run set and of a judged hand-over. -/

namespace Sys2Proof.Machine

/-! ## Turns over fans -/

/-- Only fan records, output levels and the queue changed. -/
def TurnFrame (s t : State) : Prop :=
  t = { s with draws := t.draws, fans := t.fans, events := t.events, lost := t.lost, outputs := t.outputs }

theorem TurnFrame.refl (s : State) : TurnFrame s s := rfl

theorem TurnFrame.trans {s t u : State} (h : TurnFrame s t) (k : TurnFrame t u) : TurnFrame s u := by
  unfold TurnFrame at *; rw [h] at k; exact k

theorem FanFrame.turn {s t : State} (h : FanFrame s t) : TurnFrame s t := by unfold TurnFrame; rw [h]

theorem TurnFrame.group {s t : State} (h : TurnFrame s t) : GroupFrame s t := by unfold GroupFrame; rw [h]

theorem TurnFrame.groups {s t : State} (h : TurnFrame s t) : t.groups = s.groups := by rw [h]
theorem TurnFrame.tables {s t : State} (h : TurnFrame s t) : t.tables = s.tables := by rw [h]
theorem TurnFrame.channels {s t : State} (h : TurnFrame s t) : t.channels = s.channels := by rw [h]

/-- From `t` to `u` fan `f` became `r`, with FAN_STATE when its state changed (R115), and no other fan changed. -/
structure FanTurn (f : Fin 8) (r : FanRecord) (t u : State) : Prop where
  frame : TurnFrame t u
  fans : ∀ k : Fin 8, u.fans[k] = if f = k then r else t.fans[k]
  posted : FansPosted t u
  grows : QueueGrows t u

theorem FansPosted.refl (s : State) : FansPosted s s := fun _ changed => absurd rfl changed

/-- Whether fans posted is read off the fan records and the queues. -/
theorem FansPosted.congr {s t u v : State} (h : FansPosted s t) (fans : u.fans = s.fans) (lost : u.lost = s.lost)
    (fans' : v.fans = t.fans) (events' : v.events = t.events) (lost' : v.lost = t.lost) : FansPosted u v := by
  unfold FansPosted; rw [fans, fans']
  exact fun f changed => (h f changed).congr lost events' lost'

/-- FAN_STATE of two steps, when no fan changes in both. -/
theorem FansPosted.trans {s t u : State} (h : FansPosted s t) (first : QueueGrows s t) (k : FansPosted t u)
    (second : QueueGrows t u) (apart : ∀ f : Fin 8, t.fans[f] = s.fans[f] ∨ u.fans[f] = t.fans[f]) : FansPosted s u := by
  intro f changed
  rcases apart f with same | same
  · have posted := k f (by rw [same]; exact changed)
    rw [same] at posted; exact posted.after first
  · rw [same] at changed ⊢; exact (h f changed).then second

theorem changeFan_fans (f k : Fin 8) (r : FanRecord) (s : State) :
    (changeFan f r s).fans[k] = if f = k then r else s.fans[k] := by
  rw [← fans_setFan]; unfold changeFan; dsimp only; split <;> rfl

theorem FanTurn.changeFan (f : Fin 8) (r : FanRecord) (t : State) : FanTurn f r t (changeFan f r t) := by
  refine ⟨(changeFan_fanFrame f r t).turn, fun k => changeFan_fans f k r t, fun k changed => ?_, (changeFan_calm f r t).grows⟩
  rw [changeFan_fans] at changed ⊢
  by_cases same : f = k
  · subst same
    rw [if_pos rfl] at changed ⊢
    unfold Machine.changeFan; dsimp only
    rw [if_neg changed]
    have written : QueueGrows t (setFan f r t) := .of_same rfl rfl
    exact (posted_post _ _ _ _).after written
  · rw [if_neg same] at changed; exact absurd rfl changed

/-- A fan record replaced by one of the same state posts nothing. -/
theorem FanTurn.setFan {f : Fin 8} {r : FanRecord} {t : State} (same : r.state = t.fans[f].state) :
    FanTurn f r t (setFan f r t) := by
  refine ⟨rfl, fun k => fans_setFan f k r t, fun k changed => ?_, .of_same rfl rfl⟩
  rw [fans_setFan] at changed
  split at changed
  · rename_i is; subst is; exact absurd same changed
  · exact absurd rfl changed

theorem FanTurn.none (f : Fin 8) (t : State) : FanTurn f t.fans[f] t t :=
  ⟨.refl t, fun k => by split <;> simp_all, .refl t, .refl t⟩

theorem FanTurn.judgeAlarm {f : Fin 8} {r : FanRecord} {t u : State} (h : FanTurn f r t u) :
    FanTurn f r t (judgeAlarm u) :=
  ⟨h.frame.trans rfl, h.fans, h.posted.congr rfl rfl rfl rfl rfl, h.grows.trans (judgeAlarm_calm u).grows⟩

/-- From `s` to `t` each fan of a list became `new`, with FAN_STATE of those whose state changed, and no other fan changed. -/
structure FanTurns (xs : List (Fin 8)) (new : Fin 8 → FanRecord) (s t : State) : Prop where
  frame : TurnFrame s t
  fans : ∀ k : Fin 8, t.fans[k] = if k ∈ xs then new k else s.fans[k]
  posted : FansPosted s t
  grows : QueueGrows s t

/-- A turn for each fan of a list, in an order that no rule states: a fan listed twice must bear its turn twice. -/
theorem forEachFree_fanTurns {s : State} {xs : List (Fin 8)} {act : Fin 8 → State → State} {new : Fin 8 → FanRecord}
    (may : Fin 8 → FanRecord → Prop) (start : ∀ f ∈ xs, may f s.fans[f]) (again : xs.Nodup ∨ ∀ f ∈ xs, may f (new f))
    (turn : ∀ f ∈ xs, ∀ t, TurnFrame s t → may f t.fans[f] → FanTurn f (new f) t (act f t)) :
    FanTurns xs new s (forEachFree xs act s) := by
  have fold : ∀ (ys : List (Fin 8)), (∀ f ∈ ys, f ∈ xs) → (ys.Nodup ∨ ∀ f ∈ ys, may f (new f)) → ∀ t, TurnFrame s t →
      (∀ f ∈ ys, may f t.fans[f]) → FanTurns ys new t (ys.foldl (fun t x => act x t) t) := by
    intro ys
    induction ys with
    | nil => exact fun _ _ t _ _ => ⟨.refl t, fun k => by simp, .refl t, .refl t⟩
    | cons y ys ih =>
      intro listed once t frame ready
      have first := turn y (listed y List.mem_cons_self) t frame (ready y List.mem_cons_self)
      have rest := ih (fun f mem => listed f (List.mem_cons_of_mem _ mem))
        (once.imp (fun h => (List.nodup_cons.mp h).2) fun h f mem => h f (List.mem_cons_of_mem _ mem)) (act y t)
        (frame.trans first.frame) fun f mem => by
          rw [first.fans]; split
          · rename_i same
            subst same
            rcases once with nodup | may_
            · exact absurd mem (List.nodup_cons.mp nodup).1
            · exact may_ y List.mem_cons_self
          · exact ready f (List.mem_cons_of_mem _ mem)
      have fans : ∀ k : Fin 8, (ys.foldl (fun t x => act x t) (act y t)).fans[k] =
          if k ∈ y :: ys then new k else t.fans[k] := fun k => by
        rw [rest.fans, first.fans]
        by_cases later : k ∈ ys
        · simp [later]
        · by_cases now : y = k
          · subst now; simp [later]
          · simp [later, now, Ne.symm now]
      refine ⟨first.frame.trans rest.frame, fans, first.posted.trans first.grows rest.posted rest.grows fun k => ?_,
        first.grows.trans rest.grows⟩
      by_cases now : y = k
      · subst now
        right
        rw [List.foldl_cons, fans, if_pos List.mem_cons_self, first.fans, if_pos rfl]
      · left; rw [first.fans, if_neg now]
  have drawn : TurnFrame s (drawn xs s) := by rw [drawn_eq]; rfl
  have same : (Machine.drawn xs s).fans = s.fans ∧ (Machine.drawn xs s).events = s.events ∧
      (Machine.drawn xs s).lost = s.lost := by rw [drawn_eq]; exact ⟨rfl, rfl, rfl⟩
  obtain ⟨fans, events, lost⟩ := same
  have perm := freeOrder_perm s.draws xs
  have turns := fold (freeOrder s.draws xs) (fun f mem => perm.mem_iff.mp mem)
    (again.imp perm.nodup_iff.mpr fun h f mem => h f (perm.mem_iff.mp mem)) _ drawn
    fun f mem => by rw [fans]; exact start f (perm.mem_iff.mp mem)
  refine ⟨drawn.trans turns.frame, fun k => ?_, turns.posted.congr fans.symm lost.symm rfl rfl rfl,
    (QueueGrows.of_same events lost).trans turns.grows⟩
  show ((freeOrder s.draws xs).foldl (fun t x => act x t) (Machine.drawn xs s)).fans[k] = _
  rw [turns.fans, fans]
  simp only [perm.mem_iff]

/-- The same for a list that holds no fan twice, each fan found as it stood. -/
theorem forEachFree_fanTurns_once {s : State} {xs : List (Fin 8)} {act : Fin 8 → State → State} {new : Fin 8 → FanRecord}
    (once : xs.Nodup)
    (turn : ∀ f ∈ xs, ∀ t, TurnFrame s t → t.fans[f] = s.fans[f] → FanTurn f (new f) t (act f t)) :
    FanTurns xs new s (forEachFree xs act s) :=
  forEachFree_fanTurns (fun f r => r = s.fans[f]) (fun _ _ => rfl) (.inl once) turn

/-! ## Starting and stopping a fan -/

theorem FanState.active_iff (st : FanState) : st.active = true ↔ st = .starting ∨ st = .running := by
  cases st <;> simp [FanState.active]

/-- R108: the setpoint a fan is started with. -/
theorem runningSetpoint_eq (s : State) (f : Fin 8) : runningSetpoint s f = stageSpeed s f := by
  show speedAt s.tables.groups[s.tables.fans[f].group] s.groups[s.tables.fans[f].group].commanded = _
  unfold stageSpeed; dsimp only
  cases s.groups[s.tables.fans[f].group].commanded <;> rfl

theorem startFan_eq (f : Fin 8) (s : State) : startFan f s = changeFan f (startedFan s f) s := by
  have setpoint := runningSetpoint_eq s f
  unfold startFan startedFan; dsimp only
  rw [setpoint]
  split
  · rename_i slot is
    have slotted : s.tables.fans[f].airflowSlot ≠ none := by rw [is]; nofun
    simp only [if_neg slotted]; rfl
  · rename_i is; simp only [if_pos is]

theorem stopFan_eq (f : Fin 8) (s : State) : stopFan f s = changeFan f (restingFan .off s.fans[f]) s := rfl

theorem manualFan_eq (f : Fin 8) (s : State) : manualFan f s = changeFan f (restingFan .manual s.fans[f]) s := rfl

/-- A fan's record as started is read off its record, the tables and the groups. -/
theorem startedFan_congr {s t : State} {f : Fin 8} (tables : t.tables = s.tables) (groups : t.groups = s.groups)
    (fan : t.fans[f] = s.fans[f]) : startedFan t f = startedFan s f := by
  unfold startedFan stageSpeed; simp only [tables, groups, fan]

/-- A fan started is the same started again. -/
theorem startedFan_again {s t : State} {f : Fin 8} (tables : t.tables = s.tables) (groups : t.groups = s.groups)
    (fan : t.fans[f] = startedFan s f) : startedFan t f = startedFan s f := by
  unfold startedFan at fan ⊢; unfold stageSpeed at fan ⊢; simp only [tables, groups, fan]

/-- R109 (a): starts and stops of a group step, for each fan. -/
theorem startsAndStops_turns (g : Fin 4) (s : State) :
    (s.groups[g].commanded = 0 →
      FanTurns ((fansOf s g).filter fun f => s.fans[f].state.active) (fun f => restingFan .off s.fans[f]) s
        (startsAndStops g s)) ∧
    (0 < s.groups[g].commanded →
      FanTurns (s.groups[g].runSet.filter fun f => s.fans[f].state == .off) (startedFan s) s (startsAndStops g s)) := by
  refine ⟨fun zero => ?_, fun above => ?_⟩
  · unfold startsAndStops; rw [if_pos zero]
    refine forEachFree_fanTurns_once (((List.nodup_finRange 8).filter _).filter _) fun f _ t frame same => ?_
    rw [stopFan_eq, same]; exact .changeFan f _ t
  · unfold startsAndStops; rw [if_neg (Nat.ne_of_gt above)]
    refine forEachFree_fanTurns (fun f r => r = s.fans[f] ∨ r = startedFan s f) (fun _ _ => .inl rfl)
      (.inr fun _ _ => .inr rfl) fun f _ t frame same => ?_
    rw [startFan_eq]
    rcases same with same | same
    · rw [startedFan_congr frame.tables frame.groups same]; exact .changeFan f _ t
    · rw [startedFan_again frame.tables frame.groups same]; exact .changeFan f _ t

/-! ## A recomputed run set -/

/-- R106: the record of fan `f` once the run set of its group has gone from `old` to `new`. -/
def movedFan (s : State) (g : Fin 4) (old new : List (Fin 8)) (f : Fin 8) : FanRecord :=
  if f ∈ old ∧ f ∉ new ∧ (s.fans[f].state = .starting ∨ s.fans[f].state = .running) then restingFan .off s.fans[f]
  else if f ∉ old ∧ f ∈ new ∧ s.fans[f].state = .off ∧ s.groups[g].handOver = false ∧ 0 < s.groups[g].commanded then
    startedFan s f
  else s.fans[f]

theorem actOnMember_turn {s t : State} {g : Fin 4} {old new : List (Fin 8)} {f : Fin 8}
    (moved : old.contains f ≠ new.contains f) (tables : t.tables = s.tables) (fan : t.fans[f] = s.fans[f])
    (commanded : ∀ h : Fin 4, t.groups[h].commanded = s.groups[h].commanded)
    (handOver : t.groups[g].handOver = s.groups[g].handOver) :
    FanTurn f (movedFan s g old new f) t (actOnMember g (new.contains f) f t) := by
  have started : startedFan t f = startedFan s f := by
    unfold startedFan stageSpeed; simp only [tables, fan, commanded]
  unfold actOnMember movedFan; dsimp only
  rw [fan, handOver, commanded]
  by_cases joins : f ∈ new
  · have left : f ∉ old := fun mem => moved (by simp [joins, mem])
    have contains : new.contains f = true := by simpa using joins
    rw [if_pos contains, if_neg fun h => left h.1]
    by_cases starts : s.fans[f].state = .off ∧ s.groups[g].handOver = false ∧ 0 < s.groups[g].commanded
    · rw [if_pos ⟨left, joins, starts⟩, if_pos (by simpa using starts), startFan_eq, started]
      exact .changeFan f _ t
    · rw [if_neg fun h => starts h.2.2, if_neg (by simpa using starts), ← fan]
      exact .none f t
  · have was : f ∈ old := by
      by_contra absent; exact moved (by simp [joins, absent])
    have contains : ¬ new.contains f = true := by simpa using joins
    rw [if_neg contains]
    by_cases runs : s.fans[f].state = .starting ∨ s.fans[f].state = .running
    · rw [if_pos ⟨was, joins, runs⟩, if_pos ((FanState.active_iff _).mpr runs), stopFan_eq, fan]
      exact .changeFan f _ t
    · rw [if_neg fun h => runs h.2.2, if_neg fun h => h.1 was, if_neg fun h => runs ((FanState.active_iff _).mp h), ← fan]
      exact .none f t

theorem movedFan_unmoved {s : State} {g : Fin 4} {old new : List (Fin 8)} {f : Fin 8}
    (same : old.contains f = new.contains f) : movedFan s g old new f = s.fans[f] := by
  have iff_ : f ∈ old ↔ f ∈ new := by
    rw [← List.contains_iff_mem, ← List.contains_iff_mem, same]
  unfold movedFan
  rw [if_neg fun h => h.2.1 (iff_.mp h.1), if_neg fun h => h.1 (iff_.mpr h.2.1)]

/-- A change of condition leaves the fans and posts no FAN_STATE. -/
theorem changeCondition_fans (g : Fin 4) (s : State) : (changeCondition g s).fans = s.fans := by
  unfold changeCondition; dsimp only; split <;> rfl

/-- R105, R106: the run set of a group selected, and its members acted on; the condition is still to follow. -/
def actOnMembers (g : Fin 4) (s : State) : State :=
  forEachFree ((List.finRange 8).filter fun f =>
      s.groups[g].runSet.contains f != (selectRunSet s.tables s.fans g).contains f)
    (fun f => actOnMember g ((selectRunSet s.tables s.fans g).contains f) f)
    (setGroup g { s.groups[g] with runSet := selectRunSet s.tables s.fans g } s)

theorem recomputeRunSet_eq (g : Fin 4) (s : State) : recomputeRunSet g s = changeCondition g (actOnMembers g s) := rfl

theorem actOnMembers_fans (g : Fin 4) (s : State) :
    (∀ f : Fin 8, (actOnMembers g s).fans[f] = movedFan s g s.groups[g].runSet (selectRunSet s.tables s.fans g) f) ∧
      FansPosted s (actOnMembers g s) ∧ QueueGrows s (actOnMembers g s) := by
  have written := groups_setGroup g
  have turns : FanTurns _ (movedFan s g s.groups[g].runSet (selectRunSet s.tables s.fans g)) _ (actOnMembers g s) :=
    forEachFree_fanTurns_once ((List.nodup_finRange 8).filter _) fun f mem t frame same => by
      refine actOnMember_turn (by simpa using (List.mem_filter.mp mem).2) frame.tables same (fun h => ?_) ?_
      · rw [frame.groups, written]; split
        · rename_i is; rw [is]
        · rfl
      · rw [frame.groups, written, if_pos rfl]
  have selected : ∀ r, QueueGrows s (setGroup g r s) := fun r => .of_same rfl rfl
  refine ⟨fun f => ?_, turns.posted.congr rfl rfl rfl rfl rfl, (selected _).trans turns.grows⟩
  rw [turns.fans]
  split
  · rfl
  · rename_i unmoved
    rw [movedFan_unmoved]
    · rfl
    · simpa using unmoved

/-- R106: the fans after a recomputation of a run set, and their events. -/
theorem recomputeRunSet_fans (g : Fin 4) (s : State) :
    (∀ f : Fin 8, (recomputeRunSet g s).fans[f] =
      movedFan s g s.groups[g].runSet (selectRunSet s.tables s.fans g) f) ∧ FansPosted s (recomputeRunSet g s) := by
  obtain ⟨fans, posted, grows⟩ := actOnMembers_fans g s
  have same := changeCondition_fans g (actOnMembers g s)
  rw [recomputeRunSet_eq]
  refine ⟨fun f => by rw [same]; exact fans f, ?_⟩
  have followed : FansPosted (actOnMembers g s) (changeCondition g (actOnMembers g s)) := fun f changed =>
    absurd (by rw [same]) changed
  exact posted.trans grows followed (changeCondition_calm g _).grows fun f => .inr (by rw [same])

/-! ## A judged hand-over -/

/-- R114: the record of a MANUAL fan of group `g` taken back in `s`. -/
def takenBackFan (s : State) (g : Fin 4) (f : Fin 8) : FanRecord :=
  if s.fans[f].reason ≠ .none then restingFan .failed s.fans[f]
  else if f ∈ s.groups[g].runSet ∧ 0 < s.groups[g].commanded then startedFan s f
  else restingFan .off s.fans[f]

theorem takeBackFan_turn {s t : State} {g : Fin 4} {f : Fin 8} (frame : TurnFrame s t) (fan : t.fans[f] = s.fans[f]) :
    FanTurn f (takenBackFan s g f) t (takeBackFan g f t) := by
  have started := startedFan_congr frame.tables frame.groups fan
  unfold takeBackFan takenBackFan
  rw [fan, frame.groups, startFan_eq, started, stopFan_eq, fan]
  split
  · exact .changeFan f _ t
  · split
    · exact .changeFan f _ t
    · exact .changeFan f _ t

theorem mem_enabledFans {ts : Tables} {g : Fin 4} {f : Fin 8} :
    f ∈ enabledFans ts g ↔ ts.fans[f].enabled = true ∧ ts.fans[f].group = g := by
  simp [enabledFans]

theorem mem_fansOf {s : State} {g : Fin 4} {f : Fin 8} : f ∈ fansOf s g ↔ s.tables.fans[f].group = g := by
  simp [fansOf]

theorem handOverGroup_turns (g : Fin 4) (s : State) :
    FanTurns ((enabledFans s.tables g).filter fun f => s.fans[f].state != .manual) (fun f => restingFan .manual s.fans[f])
      (setGroup g { s.groups[g] with handOver := true } s) (handOverGroup g s) :=
  forEachFree_fanTurns_once (((List.nodup_finRange 8).filter _).filter _) fun f _ t _ same => by
    have same : t.fans[f] = s.fans[f] := same
    rw [manualFan_eq, same]; exact .changeFan f _ t

theorem takeBackGroup_turns (g : Fin 4) (s : State) :
    FanTurns ((fansOf s g).filter fun f => s.fans[f].state == .manual)
      (takenBackFan (setGroup g { s.groups[g] with handOver := false } s) g)
      (setGroup g { s.groups[g] with handOver := false } s) (takeBackGroup g s) :=
  forEachFree_fanTurns_once (((List.nodup_finRange 8).filter _).filter _) fun _ _ _ => takeBackFan_turn

theorem judgeHandOver_eq (g : Fin 4) (s : State) :
    (handOverDue s.mode s.groups[g] = s.groups[g].handOver ∧ judgeHandOver g s = s) ∨
      (handOverDue s.mode s.groups[g] = false ∧ s.groups[g].handOver = true ∧ judgeHandOver g s = takeBackGroup g s) ∨
      (handOverDue s.mode s.groups[g] = true ∧ s.groups[g].handOver = false ∧ judgeHandOver g s = handOverGroup g s) := by
  unfold judgeHandOver; dsimp only
  split
  · rename_i same; exact .inl ⟨same, rfl⟩
  · rename_i differs
    split
    · rename_i set
      rw [set] at differs; exact .inr (.inl ⟨by simpa using differs, set, rfl⟩)
    · rename_i clear
      have clear : s.groups[g].handOver = false := by simpa using clear
      rw [clear] at differs; exact .inr (.inr ⟨by simpa using differs, clear, rfl⟩)

/-- R94, R95, R114: the record a judged hand-over leaves of a fan of group `g`. -/
theorem handedFan_own {s t : State} {g : Fin 4} {f : Fin 8} (own : s.tables.fans[f].group = g) :
    handedFan s t f =
      if t.groups[g].handOver = true ∧ s.groups[g].handOver = false ∧ s.tables.fans[f].enabled = true ∧
          s.fans[f].state ≠ .manual then restingFan .manual s.fans[f]
      else if t.groups[g].handOver = false ∧ s.groups[g].handOver = true ∧ s.fans[f].state = .manual then
        if s.fans[f].reason ≠ .none then restingFan .failed s.fans[f]
        else if f ∈ s.groups[g].runSet ∧ 0 < t.groups[g].commanded then startedFan { s with groups := t.groups } f
        else restingFan .off s.fans[f]
      else s.fans[f] := by
  subst own; rfl

/-- A hand-over flag that stays hands no fan over. -/
theorem handedFan_same {s t : State} {g : Fin 4} {f : Fin 8} (own : s.tables.fans[f].group = g)
    (same : t.groups[g].handOver = s.groups[g].handOver) : handedFan s t f = s.fans[f] := by
  rw [handedFan_own own, same, if_neg, if_neg]
  · rintro ⟨clear, set, -⟩; rw [clear] at set; cases set
  · rintro ⟨set, clear, -⟩; rw [set] at clear; cases clear

/-- R93 to R95, R114: a group's record replaced, its hand-over flag and run set kept, and the hand-over judged: the flag is the one
due, and the fans of the group follow it. -/
theorem judgeHandOver_judged {s : State} {g : Fin 4} {r : GroupRecord} (flag : r.handOver = s.groups[g].handOver)
    (runSet : r.runSet = s.groups[g].runSet) : HandOverJudged s (judgeHandOver g (setGroup g r s)) g := by
  have record : (setGroup g r s).groups[g] = r := by rw [groups_setGroup, if_pos rfl]
  have own : (judgeHandOver g (setGroup g r s)).groups[g] = { r with handOver := handOverDue s.mode r } := by
    rw [judgeHandOver_groups, record]; simp
  refine ⟨?_, ?_⟩
  · rw [(judgeHandOver_groupFrame g _).mode, own]; exact handOverDue_iff s.mode r
  have outcome := judgeHandOver_eq g (setGroup g r s)
  rw [record, setGroup_mode] at outcome
  rcases outcome with ⟨same, eq⟩ | ⟨due, set, eq⟩ | ⟨due, clear, eq⟩
  · rw [eq]
    refine ⟨FansPosted.congr (.refl s) rfl rfl rfl rfl rfl, fun f => ?_⟩
    split
    · rename_i of
      rw [handedFan_same of]
      · rfl
      · rw [record]; exact flag
    · rfl
  · have turns := takeBackGroup_turns g (setGroup g r s)
    rw [eq] at own ⊢
    refine ⟨turns.posted.congr rfl rfl rfl rfl rfl, fun f => ?_⟩
    have groups := turns.frame.groups
    rw [turns.fans]
    by_cases of : s.tables.fans[f].group = g
    · rw [if_pos of, handedFan_own of, own, due]
      have listed : (f ∈ (fansOf (setGroup g r s) g).filter fun f => (setGroup g r s).fans[f].state == .manual) ↔
          s.fans[f].state = .manual := by
        rw [List.mem_filter, mem_fansOf]; simpa using fun _ => of
      by_cases manual : s.fans[f].state = .manual
      · rw [if_pos (listed.mpr manual), if_neg (by rintro ⟨h, -⟩; cases h), if_pos ⟨rfl, by rw [← flag]; exact set, manual⟩]
        unfold takenBackFan
        have now : (setGroup g { (setGroup g r s).groups[g] with handOver := false } (setGroup g r s)).groups[g] =
            { r with handOver := false } := by rw [groups_setGroup, if_pos rfl, record]
        rw [now]; dsimp only
        have started := startedFan_congr (t := { s with groups := (takeBackGroup g (setGroup g r s)).groups }) (f := f)
          (by rfl) groups (by rfl)
        rw [runSet, started]
        rfl
      · rw [if_neg fun mem => manual (listed.mp mem), if_neg (by rintro ⟨h, -⟩; cases h), if_neg fun h => manual h.2.2]; rfl
    · rw [if_neg of, if_neg]
      · rfl
      · rw [List.mem_filter, mem_fansOf]; exact fun h => of h.1
  · have turns := handOverGroup_turns g (setGroup g r s)
    rw [eq] at own ⊢
    refine ⟨turns.posted.congr rfl rfl rfl rfl rfl, fun f => ?_⟩
    rw [turns.fans]
    by_cases of : s.tables.fans[f].group = g
    · rw [if_pos of, handedFan_own of, own, due]
      have listed : (f ∈ (enabledFans (setGroup g r s).tables g).filter fun f => (setGroup g r s).fans[f].state != .manual) ↔
          s.tables.fans[f].enabled = true ∧ s.fans[f].state ≠ .manual := by
        rw [List.mem_filter, mem_enabledFans]; simpa using fun _ _ => of
      by_cases hands : s.tables.fans[f].enabled = true ∧ s.fans[f].state ≠ .manual
      · rw [if_pos (listed.mpr hands), if_pos ⟨rfl, by rw [← flag]; exact clear, hands⟩]; rfl
      · rw [if_neg fun mem => hands (listed.mp mem), if_neg fun h => hands h.2.2,
          if_neg (by rintro ⟨h, -⟩; cases h)]; rfl
    · rw [if_neg of, if_neg]
      · rfl
      · rw [List.mem_filter, mem_enabledFans]; exact fun h => of h.1.2

end Sys2Proof.Machine
end

section
/-! PROOFS. The entry layouts (R182) and the store image (R190): each layout byte by byte, its decoding (O8), and the ranges of what
is decoded. -/

namespace Sys2Proof.Machine

/-! ## Bytes -/

/-- R179: a number of two bytes, high byte first. -/
theorem halfBytes_ofNat (n : Nat) : halfBytes (BitVec.ofNat 16 n) = [byteOf (n / 256), byteOf n] := by
  unfold halfBytes byteOf
  congr 1
  · apply BitVec.eq_of_toNat_eq
    simp only [BitVec.extractLsb'_toNat, BitVec.toNat_ofNat, Nat.shiftRight_eq_div_pow]
    omega
  · congr 1
    apply BitVec.eq_of_toNat_eq
    simp only [BitVec.extractLsb'_toNat, BitVec.toNat_ofNat, Nat.shiftRight_zero]
    omega

theorem halfOf_eq (n : Nat) : halfOf n = [byteOf (n / 256), byteOf n] := halfBytes_ofNat n

theorem joinBytes_bytes (n : Nat) : joinBytes (byteOf (n / 256)) (byteOf n) = BitVec.ofNat 16 n := by
  have halves := halfBytes_ofNat n
  unfold halfBytes at halves
  obtain ⟨high, low⟩ := by simpa using halves
  rw [← high, ← low, joinBytes_halfBytes]

theorem joinBytes_toNat {n : Nat} (h : n < 65536) : (joinBytes (byteOf (n / 256)) (byteOf n)).toNat = n := by
  rw [joinBytes_bytes]; simp [Nat.mod_eq_of_lt h]

/-- R179: a signed number in two's complement. -/
theorem ofInt_eq_ofNat (z : Int) : BitVec.ofInt 16 z = BitVec.ofNat 16 (z % 65536).toNat := by
  apply BitVec.eq_of_toNat_eq
  simp only [BitVec.toNat_ofInt, BitVec.toNat_ofNat]
  omega

theorem joinBytes_toInt {z : Int} (low : -512 ≤ z) (high : z ≤ 511) :
    (joinBytes (byteOf ((z % 65536).toNat / 256)) (byteOf (z % 65536).toNat)).toInt = z := by
  rw [joinBytes_bytes, ← ofInt_eq_ofNat, BitVec.toInt_ofInt, Int.bmod_eq_of_le (by omega) (by omega)]

/-- Some bits of a byte. -/
theorem extract_byteOf {n : Nat} (h : n < 256) (start len : Nat) :
    ((byteOf n).extractLsb' start len).toNat = n / 2 ^ start % 2 ^ len := by
  rw [BitVec.extractLsb'_toNat, byteOf_toNat h, Nat.shiftRight_eq_div_pow]

theorem flagByte_bit (b : Bool) : (flagByte b).getLsbD 0 = b := by cases b <;> decide

/-- A decoder that keeps what passes its check gives what passes it. -/
theorem checked_eq {α : Type} {p : α → Bool} {x e : α} (same : x = e) (passes : p e = true) :
    (if p x = true then some x else none) = some e := by
  subst same; exact if_pos passes

theorem passes_of_checked {α : Type} {p : α → Bool} {x e : α} (h : (if p x = true then some x else none) = some e) :
    p e = true := by
  split at h
  · rename_i passes; cases h; exact passes
  · cases h

/-! ## Bindings -/

theorem encodeBinding_eq (e : Binding) :
    encodeBinding e =
      [byteOf (e.valid.toNat + 2 * e.kind.code + 8 * e.role.code), byteOf e.node, byteOf e.point.val, byteOf e.zone.val,
        byteOf ((e.zeroOffset % 65536).toNat / 256), byteOf (e.zeroOffset % 65536).toNat, byteOf (e.span / 256),
        byteOf e.span, byteOf e.shift, byteOf (e.wetLevel / 256), byteOf e.wetLevel] := by
  unfold encodeBinding
  rw [ofInt_eq_ofNat, halfBytes_ofNat, halfOf_eq, halfOf_eq]; rfl

/-- The flags byte of a BINDINGS entry. -/
theorem bindingFlags (valid : Bool) (kind : BindingKind) (role : Role) :
    let f := byteOf (valid.toNat + 2 * kind.code + 8 * role.code)
    f.getLsbD 0 = valid ∧ kindOfCode (f.extractLsb' 1 2) = kind ∧ (if f.getLsbD 3 then Role.equalize else .purge) = role := by
  cases valid <;> cases kind <;> cases role <;> decide

theorem decodeBinding_encode {e : Binding} (range : e.inRange = true) : decodeBinding (encodeBinding e) = some e := by
  obtain ⟨valid, kind, role⟩ := bindingFlags e.valid e.kind e.role
  have bounds := range
  simp only [Binding.inRange, decide_eq_true_eq] at bounds
  obtain ⟨-, node, low, high, -, span, shift, wet⟩ := bounds
  have point : finOf 8 (byteOf e.point.val).toNat = some e.point := by rw [byteOf_toNat (by omega), finOf_val]
  have zone : finOf 16 (byteOf e.zone.val).toNat = some e.zone := by rw [byteOf_toNat (by omega), finOf_val]
  rw [encodeBinding_eq]
  unfold decodeBinding; dsimp only
  rw [point, zone]
  refine checked_eq (p := Binding.inRange) ?_ range
  rw [valid, kind, role, joinBytes_toInt low high, joinBytes_toNat (by omega), joinBytes_toNat (by omega),
    byteOf_toNat (by omega), byteOf_toNat (by omega)]

theorem decodeBinding_inRange {bs : List Byte} {e : Binding} (h : decodeBinding bs = some e) : e.inRange = true := by
  unfold decodeBinding at h
  split at h
  · split at h
    · exact passes_of_checked (p := Binding.inRange) h
    · cases h
  · cases h

/-! ## Zones -/

theorem encodeZone_eq (e : ZoneEntry) :
    encodeZone e =
      [byteOf (e.enabled.toNat + 2 * e.latch.toNat + 16 * e.groupMask.toNat), byteOf (e.watch / 256), byteOf e.watch,
        byteOf (e.alert / 256), byteOf e.alert, byteOf (e.alarm / 256), byteOf e.alarm, byteOf e.hysteresis,
        byteOf (e.vote + 16 * e.rateWindow), byteOf (e.rateThreshold / 256), byteOf e.rateThreshold,
        byteOf (e.staleLimit + 16 * e.settleCount), byteOf e.spillHysteresis] := by
  unfold encodeZone
  rw [halfOf_eq, halfOf_eq, halfOf_eq, halfOf_eq]; rfl

/-- The flags byte of a ZONES entry. -/
theorem zoneFlags (enabled latch : Bool) (mask : BitVec 4) :
    let f := byteOf (enabled.toNat + 2 * latch.toNat + 16 * mask.toNat)
    f.getLsbD 0 = enabled ∧ f.getLsbD 1 = latch ∧ f.extractLsb' 4 4 = mask := by
  revert enabled latch mask; decide

theorem decodeZone_encode {e : ZoneEntry} (range : e.inRange = true) : decodeZone (encodeZone e) = some e := by
  obtain ⟨enabled, latch, mask⟩ := zoneFlags e.enabled e.latch e.groupMask
  have bounds := range
  simp only [ZoneEntry.inRange, decide_eq_true_eq] at bounds
  obtain ⟨watch, alert, alarm, hysteresis, -, vote, -, window, -, threshold, -, stale, -, settle, -, spill⟩ := bounds
  rw [encodeZone_eq]
  refine checked_eq (p := ZoneEntry.inRange) ?_ range
  rw [enabled, latch, mask, joinBytes_toNat (by omega), joinBytes_toNat (by omega), joinBytes_toNat (by omega),
    joinBytes_toNat (by omega), byteOf_toNat (by omega), byteOf_toNat (by omega), extract_byteOf (by omega),
    extract_byteOf (by omega), extract_byteOf (by omega), extract_byteOf (by omega)]
  have low : (e.vote + 16 * e.rateWindow) / 2 ^ 0 % 2 ^ 3 = e.vote := by omega
  have high : (e.vote + 16 * e.rateWindow) / 2 ^ 4 % 2 ^ 3 = e.rateWindow := by omega
  have low' : (e.staleLimit + 16 * e.settleCount) / 2 ^ 0 % 2 ^ 4 = e.staleLimit := by omega
  have high' : (e.staleLimit + 16 * e.settleCount) / 2 ^ 4 % 2 ^ 4 = e.settleCount := by omega
  rw [low, high, low', high']

theorem decodeZone_inRange {bs : List Byte} {e : ZoneEntry} (h : decodeZone bs = some e) : e.inRange = true := by
  unfold decodeZone at h
  split at h
  · exact passes_of_checked (p := ZoneEntry.inRange) h
  · cases h

/-! ## Groups -/

theorem encodeGroup_eq (e : GroupEntry) :
    encodeGroup e =
      [byteOf e.speed[0], byteOf e.speed[1], byteOf e.speed[2], byteOf e.speed[3], byteOf e.runCount,
        byteOf (16 * e.stageMap.base + e.stageMap.watch), byteOf (16 * e.stageMap.alert + e.stageMap.alarm),
        byteOf (16 * e.stageMap.fault + e.stageMap.rising), byteOf (16 * e.stageMap.spill + e.stageMap.purge),
        byteOf (16 * e.stageMap.equalize + e.stageMap.warmup), byteOf (e.runOn / 256), byteOf e.runOn,
        byteOf e.proofTimeout] := by
  unfold encodeGroup stagePair
  rw [halfOf_eq]; rfl

/-- Two stages in one byte read back as they were written. -/
theorem stagePair_halves {a b : Nat} (ha : a ≤ 4) (hb : b ≤ 4) :
    ((byteOf (16 * a + b)).extractLsb' 4 4).toNat = a ∧ ((byteOf (16 * a + b)).extractLsb' 0 4).toNat = b := by
  rw [extract_byteOf (by omega), extract_byteOf (by omega)]; omega

/-- The layout of a GROUPS entry whose fields fit their bytes is read back, and kept if the fields are within their ranges. -/
theorem decodeGroup_fits {e : GroupEntry} (map : e.stageMap.inRange = true) (speed : ∀ i : Fin 4, e.speed[i] < 256)
    (count : e.runCount < 256) (runOn : e.runOn < 65536) (timeout : e.proofTimeout < 256) :
    decodeGroup (encodeGroup e) = if e.inRange = true then some e else none := by
  simp only [StageMap.inRange, decide_eq_true_eq] at map
  obtain ⟨base, watch, alert, alarm, fault, rising, spill, purge, equalize, warmup⟩ := map
  obtain ⟨h0, l0⟩ := stagePair_halves base watch
  obtain ⟨h1, l1⟩ := stagePair_halves alert alarm
  obtain ⟨h2, l2⟩ := stagePair_halves fault rising
  obtain ⟨h3, l3⟩ := stagePair_halves spill purge
  obtain ⟨h4, l4⟩ := stagePair_halves equalize warmup
  have speeds : #v[e.speed[0], e.speed[1], e.speed[2], e.speed[3]] = e.speed := by
    ext i hi
    match i, hi with
    | 0, _ => rfl
    | 1, _ => rfl
    | 2, _ => rfl
    | 3, _ => rfl
  have s0 : (byteOf e.speed[0]).toNat = e.speed[0] := byteOf_toNat (speed 0)
  have s1 : (byteOf e.speed[1]).toNat = e.speed[1] := byteOf_toNat (speed 1)
  have s2 : (byteOf e.speed[2]).toNat = e.speed[2] := byteOf_toNat (speed 2)
  have s3 : (byteOf e.speed[3]).toNat = e.speed[3] := byteOf_toNat (speed 3)
  rw [encodeGroup_eq]
  refine congrArg (fun x : GroupEntry => if x.inRange = true then some x else none) (?_ : _ = e)
  beta_reduce
  rw [h0, l0, h1, l1, h2, l2, h3, l3, h4, l4, joinBytes_toNat runOn, s0, s1, s2, s3, byteOf_toNat count,
    byteOf_toNat timeout, speeds]

theorem decodeGroup_encode {e : GroupEntry} (range : e.inRange = true) : decodeGroup (encodeGroup e) = some e := by
  have bounds := range
  simp only [GroupEntry.inRange, Bool.and_eq_true, decide_eq_true_eq] at bounds
  obtain ⟨⟨s0, s1, s2, s3, -, count, runOn, -, timeout⟩, map⟩ := bounds
  have speed : ∀ i : Fin 4, e.speed[i] < 256 := fun i => by
    match i with
    | 0 => exact s0.trans_lt (by decide)
    | 1 => exact s1.trans_lt (by decide)
    | 2 => exact s2.trans_lt (by decide)
    | 3 => exact s3.trans_lt (by decide)
  rw [decodeGroup_fits map speed (by omega) (by omega) (by omega), if_pos range]

theorem decodeGroup_inRange {bs : List Byte} {e : GroupEntry} (h : decodeGroup bs = some e) : e.inRange = true := by
  unfold decodeGroup at h
  split at h
  · exact passes_of_checked (p := GroupEntry.inRange) h
  · cases h

/-! ## Fans -/

theorem encodeFan_eq (e : FanEntry) :
    encodeFan e =
      [flagByte e.enabled, byteOf e.driveNode, byteOf (e.group.val + 16 * e.order.val), optionByte e.airflowSlot,
        byteOf (e.proofLevel / 256), byteOf e.proofLevel] := by
  unfold encodeFan
  rw [halfOf_eq]; rfl

theorem groupOrder_halves (g o : Fin 4) :
    ((byteOf (g.val + 16 * o.val)).extractLsb' 0 2).toFin = g ∧
      ((byteOf (g.val + 16 * o.val)).extractLsb' 4 2).toFin = o := by
  revert g o; decide

theorem slotOfByte_optionByte (o : Option (Fin 64)) : slotOfByte (optionByte o) = some o := by
  cases o with
  | none => rfl
  | some i => revert i; decide

theorem decodeFan_encode {e : FanEntry} (range : e.inRange = true) : decodeFan (encodeFan e) = some e := by
  have bounds := range
  simp only [FanEntry.inRange, decide_eq_true_eq] at bounds
  obtain ⟨-, node, level⟩ := bounds
  obtain ⟨group, order⟩ := groupOrder_halves e.group e.order
  rw [encodeFan_eq]
  unfold decodeFan; dsimp only
  rw [slotOfByte_optionByte]
  refine checked_eq (p := FanEntry.inRange) ?_ range
  rw [flagByte_bit, group, order, byteOf_toNat (by omega), joinBytes_toNat (by omega)]

theorem decodeFan_inRange {bs : List Byte} {e : FanEntry} (h : decodeFan bs = some e) : e.inRange = true := by
  unfold decodeFan at h
  split at h
  · split at h
    · exact passes_of_checked (p := FanEntry.inRange) h
    · cases h
  · cases h

/-! ## The device -/

theorem encodeDevice_eq (e : DeviceEntry) :
    encodeDevice e =
      [byteOf (e.surveyPeriod / 250), byteOf e.replyTimeout, byteOf e.retries, byteOf e.transitAllowance,
        byteOf e.warmupCount, flagByte e.fastField, byteOf (e.holdLimit / 256), byteOf e.holdLimit,
        flagByte e.releaseEnable] := by
  unfold encodeDevice
  rw [halfOf_eq]; rfl

theorem decodeDevice_encode {e : DeviceEntry} (range : e.inRange = true) : decodeDevice (encodeDevice e) = some e := by
  have bounds := range
  simp only [DeviceEntry.inRange, decide_eq_true_eq] at bounds
  obtain ⟨low, high, whole, -, timeout, retries, -, allowance, -, warmup, -, hold⟩ := bounds
  have rate : (flagByte e.fastField).toNat ≤ 1 := by cases e.fastField <;> decide
  have period : 250 * (e.surveyPeriod / 250) = e.surveyPeriod := by omega
  rw [encodeDevice_eq]
  refine checked_eq (p := fun d : DeviceEntry => decide ((flagByte e.fastField).toNat ≤ 1) && d.inRange) ?_ (by simp [rate, range])
  rw [flagByte_bit, flagByte_bit, byteOf_toNat (by omega), byteOf_toNat (by omega), byteOf_toNat (by omega),
    byteOf_toNat (by omega), byteOf_toNat (by omega), joinBytes_toNat (by omega), period]

theorem decodeDevice_inRange {bs : List Byte} {e : DeviceEntry} (h : decodeDevice bs = some e) : e.inRange = true := by
  unfold decodeDevice at h
  split at h
  · dsimp only at h
    split at h
    · rename_i passes; cases h; exact (Bool.and_eq_true_iff.mp passes).2
    · cases h
  · cases h

/-- Settles O8: the layouts written out, and the decoding of each. -/
theorem entryLayoutsDecodeToTheirEntries : Obligations.EntryLayoutsDecodeToTheirEntries := by
  unfold Obligations.EntryLayoutsDecodeToTheirEntries
  intro b bit
  have zero : ∀ f : Bool, bit f 0 = f.toNat := fun f => by cases f <;> rfl
  refine ⟨fun e => ⟨?_, decodeBinding_encode⟩, fun e => ⟨?_, decodeZone_encode⟩, fun e => ⟨?_, decodeGroup_encode⟩,
    fun e => ⟨?_, decodeFan_encode⟩, fun e => ⟨?_, decodeDevice_encode⟩⟩
  · rw [encodeBinding_eq, zero]
    cases e.kind <;> cases e.role <;> rfl
  · have mask : ∀ m : BitVec 4, 16 * m.toNat = bit m[0] 4 + bit m[1] 5 + bit m[2] 6 + bit m[3] 7 := by decide
    have latch : 2 * e.latch.toNat = bit e.latch 1 := by cases e.latch <;> rfl
    rw [encodeZone_eq, zero, mask, latch]; rfl
  · exact encodeGroup_eq e
  · rw [encodeFan_eq, zero]
    cases e.airflowSlot <;> rfl
  · rw [encodeDevice_eq, zero, zero]; rfl

/-! ## The ranges of what is decoded -/

theorem decodeChange_inRange {t : TableId} {index : Nat} {bs : List Byte} {c : Change} (h : decodeChange t index bs = some c) :
    c.InRange := by
  cases t with
  | bindings =>
    obtain ⟨i, -, decoded⟩ := Option.bind_eq_some_iff.mp h
    obtain ⟨e, eq, rfl⟩ := Option.map_eq_some_iff.mp decoded
    exact decodeBinding_inRange eq
  | zones =>
    obtain ⟨i, -, decoded⟩ := Option.bind_eq_some_iff.mp h
    obtain ⟨e, eq, rfl⟩ := Option.map_eq_some_iff.mp decoded
    exact decodeZone_inRange eq
  | groups =>
    obtain ⟨i, -, decoded⟩ := Option.bind_eq_some_iff.mp h
    obtain ⟨e, eq, rfl⟩ := Option.map_eq_some_iff.mp decoded
    exact decodeGroup_inRange eq
  | fans =>
    obtain ⟨i, -, decoded⟩ := Option.bind_eq_some_iff.mp h
    obtain ⟨e, eq, rfl⟩ := Option.map_eq_some_iff.mp decoded
    exact decodeFan_inRange eq
  | device =>
    unfold decodeChange at h; dsimp only at h
    split at h
    · obtain ⟨e, eq, rfl⟩ := Option.map_eq_some_iff.mp h
      exact decodeDevice_inRange eq
    · cases h

/-- What each decoded piece satisfies, each entry of a decoded section satisfies. -/
theorem decodeSection_all {α : Type} {n k : Nat} {f : List Byte → Option α} {bs : List Byte} {v : Vector α n}
    {P : α → Prop} (piece : ∀ b x, f b = some x → P x) (h : decodeSection n k f bs = some v) (i : Nat) (hi : i < n) : P v[i] := by
  obtain ⟨xs, decoded, eq⟩ := Option.bind_eq_some_iff.mp h
  have all : ∀ (ps : List (List Byte)) (xs : List α), decodeAll f ps = some xs → ∀ x ∈ xs, P x := by
    intro ps
    induction ps with
    | nil => intro xs h x mem; cases h; cases mem
    | cons p ps ih =>
      intro xs h x mem
      unfold decodeAll at h
      split at h
      · rename_i first rest
        cases h
        rcases List.mem_cons.mp mem with rfl | later
        · exact piece p x first
        · exact ih _ rest x later
      · cases h
  unfold vectorOf at eq
  split at eq
  · cases eq
    exact all _ xs decoded _ (by simp)
  · cases eq

theorem decodeTables_inRange {bs : List Byte} {ts : Tables} (h : decodeTables bs = some ts) : ts.InRange := by
  unfold decodeTables at h
  split at h
  · rename_i b z g f d hb hz hg hf hd
    cases h
    exact ⟨fun i => decodeSection_all (fun _ _ => decodeBinding_inRange) hb i i.isLt,
      fun i => decodeSection_all (fun _ _ => decodeZone_inRange) hz i i.isLt,
      fun i => decodeSection_all (fun _ _ => decodeGroup_inRange) hg i i.isLt,
      fun i => decodeSection_all (fun _ _ => decodeFan_inRange) hf i i.isLt, decodeDevice_inRange hd⟩
  · cases h

theorem default_inRange : Tables.default.InRange := by
  refine ⟨fun i => ?_, fun i => ?_, fun i => ?_, fun i => ?_, by decide⟩
  · have get : Tables.default.bindings[i] = Binding.default := by simp [Tables.default]
    rw [get]; decide
  · have get : Tables.default.zones[i] = ZoneEntry.default := by simp [Tables.default]
    rw [get]; decide
  · have get : Tables.default.groups[i] = GroupEntry.default := by simp [Tables.default]
    rw [get]; decide
  · revert i; decide

/-- A load gives tables whose fields are within their ranges (R190). -/
theorem loadTables_inRange (s : State) : (loadTables s).tables.InRange := by
  unfold loadTables; split
  · rename_i ts loaded
    unfold loadStore at loaded
    split at loaded
    · split at loaded
      · exact decodeTables_inRange loaded
      · cases loaded
    · cases loaded
  · exact default_inRange

end Sys2Proof.Machine
end

section
/-! PROOFS. The ventilation sequencer (chapter 5): the stages zones and stack give, one recomputation of a group and of several, and
the staging and hand-over laws over every step (O52). -/

namespace Sys2Proof.Machine

/-! ## Demand and floor (5.2, 5.3) -/

theorem largest_append (xs ys : List Nat) : largest (xs ++ ys) = max (largest xs) (largest ys) := by
  induction xs with
  | nil => exact (Nat.zero_max _).symm
  | cons x xs ih =>
    show max x (largest (xs ++ ys)) = max (max x (largest xs)) (largest ys)
    rw [ih, Nat.max_assoc]

theorem largest_flatMap {α : Type} (f : α → List Nat) (xs : List α) :
    largest (xs.flatMap f) = largest (xs.map fun x => largest (f x)) := by
  induction xs with
  | nil => rfl
  | cons x xs ih => rw [List.flatMap_cons, largest_append, ih]; rfl

/-- The largest of a list that holds something is one of them, and none is larger. -/
theorem largest_spec {xs : List Nat} (some : xs ≠ []) {p : Nat → Prop} (mem : ∀ n, n ∈ xs ↔ p n) :
    p (largest xs) ∧ ∀ k, p k → k ≤ largest xs :=
  ⟨(mem _).mp (largest_mem some), fun k h => le_largest ((mem k).mpr h)⟩

/-- The stages the conditions of a group's member zones name, and whether each stands in the floor set (R80). -/
def calledStages (s : State) (g : Fin 4) : List (Nat × Bool) :=
  (memberZones s g).flatMap fun z => shownConditions s.tables.groups[g].stageMap s.zones[z]

theorem mem_memberZones {s : State} {g : Fin 4} {z : Fin 16} :
    z ∈ memberZones s g ↔ s.tables.zones[z].enabled = true ∧ s.tables.zones[z].groupMask.getLsbD g.val = true := by
  simp [memberZones]

theorem demandOf_eq (s : State) (g : Fin 4) (active : s.mode ≠ .standby) :
    demandOf s g = largest (s.tables.groups[g].stageMap.base ::
      ((if s.mode = .warmup then [s.tables.groups[g].stageMap.warmup] else []) ++ (calledStages s g).map (·.1))) := by
  have called : largest ((calledStages s g).map (·.1)) =
      largest ((memberZones s g).map fun z => contribution s.tables.groups[g].stageMap s.zones[z]) := by
    unfold calledStages
    rw [List.map_flatMap, largest_flatMap]; rfl
  have front : ∀ x xs, largest (x :: xs) = max x (largest xs) := fun _ _ => rfl
  rw [front, largest_append, called]
  unfold demandOf; dsimp only
  cases h : s.mode with
  | standby => exact absurd h active
  | warmup => simp [largest, Nat.max_assoc]
  | run => simp [largest]

theorem floorOf_eq (s : State) (g : Fin 4) (active : s.mode ≠ .standby) :
    floorOf s g = largest (0 :: ((calledStages s g).filter (·.2)).map (·.1)) := by
  have called : largest (((calledStages s g).filter (·.2)).map (·.1)) =
      largest ((memberZones s g).map fun z => floorContribution s.tables.groups[g].stageMap s.zones[z]) := by
    unfold calledStages
    rw [List.filter_flatMap, List.map_flatMap, largest_flatMap]; rfl
  have front : ∀ xs, largest (0 :: xs) = largest xs := fun xs => Nat.zero_max _
  rw [front, called]
  unfold floorOf
  cases h : s.mode with
  | standby => exact absurd h active
  | warmup => rfl
  | run => rfl

theorem stages_standby {s : State} (idle : s.mode = .standby) (g : Fin 4) : demandOf s g = 0 ∧ floorOf s g = 0 := by
  unfold demandOf floorOf; rw [idle]; exact ⟨rfl, rfl⟩

/-- The conditions of R80, one by one. -/
theorem mem_shownConditions {m : StageMap} {r : ZoneRecord} {n : Nat} {b : Bool} :
    (n, b) ∈ shownConditions m r ↔
      (true, n, b) ∈ [(r.gas == .watch, m.watch, false), (r.gas == .alert, m.alert, false), (r.gas == .alarm, m.alarm, true),
        (r.gas == .fault, m.fault, true), (r.rising, m.rising, false),
        (r.spill == .wet || r.spill == .latched, m.spill, true), (r.purge, m.purge, true),
        (r.equalize, m.equalize, false), (r.spillBlind || r.noSense, m.fault, true)] := by
  have shown : ∀ (c : Prop) [Decidable c] (x : Nat × Bool), (n, b) ∈ (if c then [x] else []) ↔ c ∧ (n, b) = x := by
    intro c _ x; split <;> simp_all
  unfold shownConditions
  simp only [List.mem_append, shown, List.mem_cons, List.not_mem_nil, or_false, Prod.mk.injEq, Bool.or_eq_true,
    beq_iff_eq, eq_comm (a := true), or_assoc]

theorem mem_calledStages {s : State} {g : Fin 4} {n : Nat} {b : Bool} :
    (n, b) ∈ calledStages s g ↔ ∃ z : Fin 16, s.tables.zones[z].enabled = true ∧
      s.tables.zones[z].groupMask.getLsbD g.val = true ∧
      (n, b) ∈ shownConditions s.tables.groups[g].stageMap s.zones[z] := by
  unfold calledStages
  simp only [List.mem_flatMap, mem_memberZones, and_assoc]

/-- R81, R82: the stages the inputs give, as the largest of what calls. -/
theorem stages_largest (s : State) (g : Fin 4) (active : s.mode ≠ .standby) :
    let m := s.tables.groups[g].stageMap
    let calls (stage : Nat) (inFloorSet : Bool) : Prop := (stage, inFloorSet) ∈ calledStages s g
    ((demandOf s g = m.base ∨ (s.mode = .warmup ∧ demandOf s g = m.warmup) ∨ calls (demandOf s g) false ∨
        calls (demandOf s g) true) ∧
      ∀ k, k = m.base ∨ (s.mode = .warmup ∧ k = m.warmup) ∨ calls k false ∨ calls k true → k ≤ demandOf s g) ∧
    ((floorOf s g = 0 ∨ calls (floorOf s g) true) ∧ ∀ k, k = 0 ∨ calls k true → k ≤ floorOf s g) := by
  intro m calls
  constructor
  · rw [demandOf_eq s g active]
    refine largest_spec (p := fun n => n = m.base ∨ (s.mode = .warmup ∧ n = m.warmup) ∨ calls n false ∨ calls n true)
      (List.cons_ne_nil _ _) fun n => ?_
    have warm : n ∈ (if s.mode = .warmup then [s.tables.groups[g].stageMap.warmup] else []) ↔
        s.mode = .warmup ∧ n = m.warmup := by split <;> simp_all [m]
    rw [List.mem_cons, List.mem_append, warm, List.mem_map]
    refine or_congr Iff.rfl (or_congr Iff.rfl ?_)
    constructor
    · rintro ⟨⟨k, b⟩, mem, rfl⟩
      cases b
      · exact .inl mem
      · exact .inr mem
    · rintro (mem | mem)
      · exact ⟨_, mem, rfl⟩
      · exact ⟨_, mem, rfl⟩
  · rw [floorOf_eq s g active]
    refine largest_spec (p := fun n => n = 0 ∨ calls n true) (List.cons_ne_nil _ _) fun n => ?_
    rw [List.mem_cons, List.mem_map]
    refine or_congr Iff.rfl ?_
    constructor
    · rintro ⟨⟨k, b⟩, mem, rfl⟩
      obtain ⟨mem, floor⟩ := List.mem_filter.mp mem
      obtain rfl : b = true := floor
      exact mem
    · exact fun mem => ⟨_, List.mem_filter.mpr ⟨mem, rfl⟩, rfl⟩

theorem floorOf_le_demandOf (s : State) (g : Fin 4) : floorOf s g ≤ demandOf s g := by
  by_cases idle : s.mode = .standby
  · rw [(stages_standby idle g).2]; exact Nat.zero_le _
  · obtain ⟨⟨-, above⟩, ⟨called, -⟩⟩ := stages_largest s g idle
    rcases called with zero | called
    · rw [zero]; exact Nat.zero_le _
    · exact above _ (.inr (.inr (.inr called)))

/-- R79: with the stage map within its ranges no stage it names is above 4. -/
theorem demandOf_le {s : State} {g : Fin 4} (range : s.tables.groups[g].inRange = true) : demandOf s g ≤ 4 := by
  by_cases idle : s.mode = .standby
  · rw [(stages_standby idle g).1]; exact Nat.zero_le _
  · simp only [GroupEntry.inRange, StageMap.inRange, Bool.and_eq_true, decide_eq_true_eq] at range
    obtain ⟨-, base, watch, alert, alarm, fault, rising, spill, purge, equalize, warmup⟩ := range
    have shown : ∀ (r : ZoneRecord) (n : Nat) (b : Bool), (n, b) ∈ shownConditions s.tables.groups[g].stageMap r → n ≤ 4 := by
      intro r n b mem
      rw [mem_shownConditions] at mem
      simp only [List.mem_cons, Prod.mk.injEq, List.not_mem_nil, or_false] at mem
      omega
    obtain ⟨⟨called, -⟩, -⟩ := stages_largest s g idle
    rcases called with eq | ⟨-, eq⟩ | called | called
    · rw [eq]; exact base
    · rw [eq]; exact warmup
    · obtain ⟨z, -, -, mem⟩ := mem_calledStages.mp called
      exact shown _ _ _ mem
    · obtain ⟨z, -, -, mem⟩ := mem_calledStages.mp called
      exact shown _ _ _ mem

theorem shownConditions_congr {m : StageMap} {r r' : ZoneRecord} (same : stagingInputs r' = stagingInputs r) :
    shownConditions m r' = shownConditions m r := by
  simp only [stagingInputs, Prod.mk.injEq] at same
  obtain ⟨gas, rising, purge, equalize, noSense, spill, spillBlind⟩ := same
  unfold shownConditions
  rw [gas, rising, purge, equalize, noSense, spill, spillBlind]

/-- R83: the stages of a group are formed from the mode, its stage map, and the conditions of its member zones. -/
theorem stages_congr {s t : State} {g : Fin 4} (mode : t.mode = s.mode)
    (map : t.tables.groups[g].stageMap = s.tables.groups[g].stageMap) (members : memberZones t g = memberZones s g)
    (zones : ∀ z ∈ memberZones s g, stagingInputs t.zones[z] = stagingInputs s.zones[z]) :
    demandOf t g = demandOf s g ∧ floorOf t g = floorOf s g := by
  have called : calledStages t g = calledStages s g := by
    unfold calledStages
    rw [members, map]
    exact List.flatMap_congr fun z mem => shownConditions_congr (zones z mem)
  by_cases idle : s.mode = .standby
  · obtain ⟨demand, floor⟩ := stages_standby (mode.trans idle) g
    obtain ⟨demand', floor'⟩ := stages_standby idle g
    exact ⟨demand.trans demand'.symm, floor.trans floor'.symm⟩
  · have active : t.mode ≠ .standby := mode ▸ idle
    rw [demandOf_eq s g idle, demandOf_eq t g active, floorOf_eq s g idle, floorOf_eq t g active, called, mode, map]
    exact ⟨rfl, rfl⟩

/-! ## One recomputation of a group -/

theorem restaged_handOver (s : State) (g : Fin 4) : (restaged s g).handOver = s.groups[g].handOver := by
  unfold restaged floorRule; dsimp only; split <;> rfl

theorem restaged_runSet (s : State) (g : Fin 4) : (restaged s g).runSet = s.groups[g].runSet := by
  unfold restaged floorRule; dsimp only; split <;> rfl

/-- R83 to R85, R93: the record of a group recomputed in `s`. -/
def restagedGroup (s : State) (g : Fin 4) : GroupRecord :=
  { restaged s g with handOver := handOverDue s.mode (restaged s g) }

theorem restage_own (g : Fin 4) (s : State) : (restage g s).groups[g] = restagedGroup s g := by
  rw [restage_groups]; simp [restagedGroup]

theorem restage_other {g h : Fin 4} (other : h ≠ g) (s : State) : (restage g s).groups[h] = s.groups[h] := by
  have ne : ¬ g.val = h.val := fun k => other (Fin.ext k).symm
  rw [restage_groups]; simp [ne]

/-- R83 to R85: the recomputed record, field by field. -/
theorem restagedGroup_eq (s : State) (g : Fin 4) :
    restagedGroup s g = { s.groups[g] with
      demand := demandOf s g, floor := floorOf s g, effective := effectiveOf s.mode (restagedGroup s g)
      handOver := (restagedGroup s g).handOver
      commanded := if s.mode ≠ .standby ∧ s.groups[g].commanded < floorOf s g then floorOf s g else s.groups[g].commanded
      runOn := if s.mode ≠ .standby ∧ s.groups[g].commanded < floorOf s g then 0 else s.groups[g].runOn } := by
  have effective : ∀ r r' : GroupRecord, r'.stack = r.stack → r'.demand = r.demand → r'.floor = r.floor →
      effectiveOf s.mode r' = effectiveOf s.mode r := fun r r' stack demand floor => by
    unfold effectiveOf; rw [stack, demand, floor]
  by_cases raises : s.mode ≠ .standby ∧ s.groups[g].commanded < floorOf s g
  · rw [if_pos raises, if_pos raises]
    unfold restagedGroup restaged floorRule; dsimp only
    rw [if_pos raises]; rfl
  · rw [if_neg raises, if_neg raises]
    unfold restagedGroup restaged floorRule; dsimp only
    rw [if_neg raises]; rfl

/-- Only group and fan records, and with them the queue, changed. -/
def StageFrame (s t : State) : Prop :=
  t = { s with draws := t.draws, fans := t.fans, events := t.events, lost := t.lost, groups := t.groups }

theorem StageFrame.refl (s : State) : StageFrame s s := rfl

theorem StageFrame.trans {s t u : State} (h : StageFrame s t) (k : StageFrame t u) : StageFrame s u := by
  unfold StageFrame at *; rw [h] at k; exact k

theorem FanFrame.stage {s t : State} (h : FanFrame s t) : StageFrame s t := by unfold StageFrame; rw [h]

theorem StageFrame.tables {s t : State} (h : StageFrame s t) : t.tables = s.tables := by rw [h]
theorem StageFrame.mode {s t : State} (h : StageFrame s t) : t.mode = s.mode := by rw [h]
theorem StageFrame.zones {s t : State} (h : StageFrame s t) : t.zones = s.zones := by rw [h]
theorem StageFrame.outputs {s t : State} (h : StageFrame s t) : t.outputs = s.outputs := by rw [h]

theorem judgeHandOver_stageFrame (g : Fin 4) (s : State) : StageFrame s (judgeHandOver g s) := by
  have stored : ∀ r, StageFrame s (setGroup g r s) := fun _ => rfl
  unfold judgeHandOver; dsimp only
  split
  · rfl
  · split
    · exact (stored _).trans (forEachFree_fanFrame (takeBackFan_fanFrame g) _).stage
    · exact (stored _).trans (forEachFree_fanFrame manualFan_fanFrame _).stage

theorem restage_stageFrame (g : Fin 4) (s : State) : StageFrame s (restage g s) := by
  have stored : StageFrame s (setGroup g (restaged s g) s) := rfl
  exact stored.trans (judgeHandOver_stageFrame g _)

theorem changeStack_stageFrame (g : Fin 4) (cs : List Context) (s : State) : StageFrame s (changeStack g cs s) := by
  have stored : ∀ r, StageFrame s (setGroup g r s) := fun _ => rfl
  exact (stored _).trans (judgeHandOver_stageFrame g _)

/-- R93 to R95, R114: one recomputation judges the hand-over of its group. -/
theorem restage_judged (g : Fin 4) (s : State) : HandOverJudged s (restage g s) g :=
  judgeHandOver_judged (restaged_handOver s g) (restaged_runSet s g)

theorem changeStack_judged (g : Fin 4) (cs : List Context) (s : State) : HandOverJudged s (changeStack g cs s) g :=
  judgeHandOver_judged (by rfl) (by rfl)

/-! ## Recomputation of several groups -/

/-- What holds after some of the groups have had their turn, and is taken on by the turn of another one, holds after all of them
had theirs. -/
theorem forEachGroup_once {P : List (Fin 4) → State → Prop} {gs : List (Fin 4)} {f : Fin 4 → State → State} {s : State}
    (once : gs.Nodup) (start : P [] s) (draws : ∀ done t n, P done t → P done { t with draws := n })
    (turn : ∀ g ∈ gs, ∀ done t, g ∉ done → P done t → P (g :: done) (f g t)) :
    ∃ done, (∀ g, g ∈ done ↔ g ∈ gs) ∧ P done (forEachGroup gs f s) := by
  have fold : ∀ (ys : List (Fin 4)), ys.Nodup → (∀ y ∈ ys, y ∈ gs) → ∀ done t, (∀ y ∈ ys, y ∉ done) → P done t →
      ∃ done', (∀ g, g ∈ done' ↔ g ∈ ys ∨ g ∈ done) ∧ P done' (ys.foldl (fun t x => f x t) t) := by
    intro ys
    induction ys with
    | nil => exact fun _ _ done t _ h => ⟨done, by simp, h⟩
    | cons y ys ih =>
      intro nodup listed done t fresh h
      obtain ⟨absent, nodup⟩ := List.nodup_cons.mp nodup
      have first := turn y (listed y List.mem_cons_self) done t (fresh y List.mem_cons_self) h
      obtain ⟨done', mem, after⟩ := ih nodup (fun z hz => listed z (List.mem_cons_of_mem _ hz)) (y :: done) (f y t)
        (fun z hz => by
          rw [List.mem_cons]
          rintro (rfl | old)
          · exact absent hz
          · exact fresh z (List.mem_cons_of_mem _ hz) old) first
      refine ⟨done', fun g => ?_, after⟩
      rw [mem, List.mem_cons, List.mem_cons]; tauto
  obtain ⟨quiet, memQuiet, afterQuiet⟩ := fold (gs.filter fun g => quietGroup s g) (once.filter _)
    (fun _ => List.mem_of_mem_filter) [] s (by simp) start
  have perm := freeOrder_perm ((gs.filter fun g => quietGroup s g).foldl (fun t g => f g t) s).draws
    (gs.filter fun g => !quietGroup s g)
  obtain ⟨done, mem, after⟩ := fold _ (perm.nodup_iff.mpr (once.filter _))
    (fun y hy => List.mem_of_mem_filter (perm.mem_iff.mp hy)) quiet
    (drawn (gs.filter fun g => !quietGroup s g) ((gs.filter fun g => quietGroup s g).foldl (fun t g => f g t) s))
    (fun y hy => by
      have noisy := (List.mem_filter.mp (perm.mem_iff.mp hy)).2
      rw [memQuiet, List.mem_filter]
      rintro (⟨-, is⟩ | none)
      · rw [is] at noisy; cases noisy
      · cases none)
    (by rw [drawn_eq]; exact draws _ _ _ afterQuiet)
  refine ⟨done, fun g => ?_, after⟩
  rw [mem, memQuiet, perm.mem_iff, List.mem_filter, List.mem_filter]
  cases quietGroup s g <;> simp

/-- A recomputed record is read off the group's record, the tables, the zones and the mode. -/
theorem restagedGroup_congr {s t : State} {g : Fin 4} (mode : t.mode = s.mode) (tables : t.tables = s.tables)
    (zones : t.zones = s.zones) (record : t.groups[g] = s.groups[g]) : restagedGroup t g = restagedGroup s g := by
  have stages : demandOf t g = demandOf s g ∧ floorOf t g = floorOf s g :=
    stages_congr mode (by rw [tables]) (by unfold memberZones; rw [tables]) fun z _ => by rw [zones]
  unfold restagedGroup restaged
  rw [mode, record, stages.1, stages.2]

/-- The record a judged hand-over leaves of a fan is read off its record, its group's, and the tables. -/
theorem handedFan_congr {s t s' t' : State} {f : Fin 8} (tables : s'.tables = s.tables) (fan : s'.fans[f] = s.fans[f])
    (before : s'.groups[s.tables.fans[f].group] = s.groups[s.tables.fans[f].group])
    (after : t'.groups[s.tables.fans[f].group] = t.groups[s.tables.fans[f].group]) :
    handedFan s' t' f = handedFan s t f := by
  have own : s'.tables.fans[f].group = s.tables.fans[f].group := by rw [tables]
  have started : startedFan { s' with groups := t'.groups } f = startedFan { s with groups := t.groups } f := by
    unfold startedFan stageSpeed; simp only [tables, fan, after]
  rw [handedFan_own own, handedFan_own (s := s) (t := t) rfl, started, tables, fan, before, after]

/-- From `s` to `t` the groups of a list were recomputed: their records, and the fans of theirs handed over. -/
structure Restaged (gs : List (Fin 4)) (s t : State) : Prop where
  frame : StageFrame s t
  groups : ∀ g : Fin 4, t.groups[g] = if g ∈ gs then restagedGroup s g else s.groups[g]
  fans : ∀ f : Fin 8, t.fans[f] = if s.tables.fans[f].group ∈ gs then handedFan s t f else s.fans[f]
  posted : FansPosted s t
  grows : QueueGrows s t

theorem Restaged.congr_list {gs hs : List (Fin 4)} {s t : State} (same : ∀ g, g ∈ gs ↔ g ∈ hs) (h : Restaged gs s t) :
    Restaged hs s t := by
  refine ⟨h.frame, fun g => ?_, fun f => ?_, h.posted, h.grows⟩
  · rw [h.groups]; simp only [same]
  · rw [h.fans]; simp only [same]

theorem restage_restaged (g : Fin 4) (s : State) : Restaged [g] s (restage g s) := by
  obtain ⟨-, posted, fans⟩ := restage_judged g s
  refine ⟨restage_stageFrame g s, fun h => ?_, fun f => ?_, posted, (restage_calm g s).grows⟩
  · by_cases same : h = g
    · subst same; rw [if_pos (List.mem_singleton_self h)]; exact restage_own h s
    · rw [if_neg fun mem => same (List.mem_singleton.mp mem)]; exact restage_other same s
  · rw [fans]; simp only [List.mem_singleton]

/-- One more group recomputed. -/
theorem Restaged.step {gs : List (Fin 4)} {g : Fin 4} {s t : State} (h : Restaged gs s t) (fresh : g ∉ gs) :
    Restaged (g :: gs) s (restage g t) := by
  have one := restage_restaged g t
  have record : restagedGroup t g = restagedGroup s g :=
    restagedGroup_congr h.frame.mode h.frame.tables h.frame.zones (by rw [h.groups, if_neg fresh])
  have groups : ∀ k : Fin 4, (restage g t).groups[k] = if k ∈ g :: gs then restagedGroup s k else s.groups[k] := fun k => by
    rw [one.groups, h.groups]
    by_cases same : k = g
    · subst same; simp [record]
    · simp [same]
  have apart : ∀ f : Fin 8, t.fans[f] = s.fans[f] ∨ (restage g t).fans[f] = t.fans[f] := fun f => by
    by_cases own : s.tables.fans[f].group = g
    · left; rw [h.fans, if_neg (own ▸ fresh)]
    · right
      rw [one.fans, h.frame.tables, if_neg fun mem => own (List.mem_singleton.mp mem)]
  refine ⟨h.frame.trans one.frame, groups, fun f => ?_, h.posted.trans h.grows one.posted one.grows apart,
    h.grows.trans one.grows⟩
  rw [one.fans, h.frame.tables]
  by_cases own : s.tables.fans[f].group = g
  · have fan : t.fans[f] = s.fans[f] := by rw [h.fans, if_neg (own ▸ fresh)]
    rw [if_pos (List.mem_singleton.mpr own), if_pos (own ▸ List.mem_cons_self)]
    exact handedFan_congr h.frame.tables fan (by rw [h.groups, if_neg (own ▸ fresh)]) rfl
  · rw [if_neg fun mem => own (List.mem_singleton.mp mem), h.fans]
    by_cases listed : s.tables.fans[f].group ∈ gs
    · rw [if_pos listed, if_pos (List.mem_cons_of_mem _ listed)]
      exact handedFan_congr rfl rfl rfl (by rw [restage_other own])
    · rw [if_neg listed, if_neg]
      rw [List.mem_cons]; exact fun mem => mem.elim own listed

/-- R83: every group of a list recomputed, in whatever order. -/
theorem forEachGroup_restaged {gs : List (Fin 4)} (once : gs.Nodup) (s : State) :
    Restaged gs s (forEachGroup gs restage s) := by
  obtain ⟨done, mem, after⟩ := forEachGroup_once (P := fun done t => Restaged done s t) (f := restage) (s := s) once
    ⟨.refl s, fun g => by simp, fun f => by simp, .refl s, .refl s⟩
    (fun done t n h => ⟨h.frame.trans rfl, h.groups, h.fans, h.posted.congr rfl rfl rfl rfl rfl,
      h.grows.trans (.of_same rfl rfl)⟩)
    fun g _ done t fresh h => h.step fresh
  exact after.congr_list mem

theorem servedGroups_nodup (mask : BitVec 4) : (servedGroups mask).Nodup := (List.nodup_finRange 4).filter _

theorem mem_servedGroups {mask : BitVec 4} {g : Fin 4} : g ∈ servedGroups mask ↔ mask.getLsbD g.val = true := by
  simp [servedGroups]

end Sys2Proof.Machine
end

section
/-! PROOFS. The staging and hand-over laws of the groups (chapter 5) are kept by every step (O52): a group's record is formed from
the state's inputs, and each operation either leaves record and inputs or forms the record again. -/

namespace Sys2Proof.Machine

/-! ## A group's record as formed -/

/-- R83 to R85, R89, R93: the record of group `g` is formed from the inputs of `s`. -/
structure GroupStaged (s : State) (g : Fin 4) : Prop where
  demand : s.groups[g].demand = demandOf s g
  floor : s.groups[g].floor = floorOf s g
  effective : s.groups[g].effective = effectiveOf s.mode s.groups[g]
  commanded : if s.mode = .standby then s.groups[g].commanded = 0
    else s.groups[g].floor ≤ s.groups[g].commanded ∧ s.groups[g].commanded ≤ 4
  contexts : ∀ c ∈ s.groups[g].stack, c.stage ≤ 4
  handOver : s.groups[g].handOver = true ↔ HandOverHolds s.mode s.groups[g]

/-- The tables are within their ranges and every group's record is formed. -/
structure Formed (s : State) : Prop where
  tables : s.tables.InRange
  groups : ∀ g : Fin 4, GroupStaged s g

/-- What a step keeps of the stages: the two laws of O52, with every group's record as one. -/
structure Staged (s : State) : Prop where
  formed : Formed s
  changes : ∀ c ∈ s.changes, c.InRange

theorem staged_iff (s : State) : Staged s ↔ StagingLaw s ∧ HandOverLaw s := by
  constructor
  · rintro ⟨⟨tables, groups⟩, changes⟩
    exact ⟨⟨⟨tables, changes⟩, fun g => (groups g).contexts,
      fun g => ⟨(groups g).demand, (groups g).floor, (groups g).effective⟩, fun g => (groups g).commanded⟩,
      fun g => (groups g).handOver⟩
  · rintro ⟨⟨⟨tables, changes⟩, contexts, fresh, commanded⟩, handOver⟩
    refine ⟨⟨tables, fun g => ?_⟩, changes⟩
    obtain ⟨demand, floor, effective⟩ := fresh g
    exact ⟨demand, floor, effective, commanded g, contexts g, handOver g⟩

/-- Only the run-on count, the run set and the condition of a group's record changed. -/
def StagesKept (r r' : GroupRecord) : Prop :=
  r' = { r with runOn := r'.runOn, runSet := r'.runSet, condition := r'.condition }

theorem StagesKept.refl (r : GroupRecord) : StagesKept r r := rfl

theorem StagesKept.trans {r r' r'' : GroupRecord} (h : StagesKept r r') (k : StagesKept r' r'') : StagesKept r r'' := by
  unfold StagesKept at *; rw [h] at k; exact k

theorem StagesKept.of_eq {r r' : GroupRecord} (same : r' = r) : StagesKept r r' := by rw [same]; rfl

/-- The effective stage is read off stack, demand and floor (R84). -/
theorem effectiveOf_congr {mode : Mode} {r r' : GroupRecord} (stack : r'.stack = r.stack) (demand : r'.demand = r.demand)
    (floor : r'.floor = r.floor) : effectiveOf mode r' = effectiveOf mode r := by
  unfold effectiveOf; rw [stack, demand, floor]

theorem GroupStaged.congr {s t : State} {g : Fin 4} (h : GroupStaged s g) (mode : t.mode = s.mode)
    (stages : demandOf t g = demandOf s g ∧ floorOf t g = floorOf s g) (kept : StagesKept s.groups[g] t.groups[g]) :
    GroupStaged t g := by
  obtain ⟨demand, floor⟩ := stages
  unfold StagesKept at kept
  refine ⟨?_, ?_, ?_, ?_, ?_, ?_⟩
  · rw [kept, demand]; exact h.demand
  · rw [kept, floor]; exact h.floor
  · rw [kept, mode, effectiveOf_congr (r := s.groups[g]) (by rfl) (by rfl) (by rfl)]; exact h.effective
  · rw [kept, mode]; exact h.commanded
  · rw [kept]; exact h.contexts
  · rw [kept, mode]; exact h.handOver

/-- In STANDBY no input calls for a stage. -/
theorem GroupStaged.standby {s t : State} {g : Fin 4} (h : GroupStaged s g) (idle : s.mode = .standby) (mode : t.mode = s.mode)
    (groups : t.groups = s.groups) : GroupStaged t g := by
  obtain ⟨demand, floor⟩ := stages_standby idle g
  obtain ⟨demand', floor'⟩ := stages_standby (mode.trans idle) g
  exact h.congr mode ⟨demand'.trans demand.symm, floor'.trans floor.symm⟩ (.of_eq (by rw [groups]))

/-- Whether the tables, the mode, and what the zones ask for stay. -/
theorem Formed.congr {s t : State} (h : Formed s) (tables : t.tables = s.tables) (mode : t.mode = s.mode)
    (zones : ∀ z : Fin 16, stagingInputs t.zones[z] = stagingInputs s.zones[z])
    (kept : ∀ g : Fin 4, StagesKept s.groups[g] t.groups[g]) : Formed t :=
  ⟨tables ▸ h.tables, fun g => (h.groups g).congr mode
    (stages_congr mode (by rw [tables]) (by unfold memberZones; rw [tables]) fun z _ => zones z) (kept g)⟩

/-- A state that differs in what the stages do not read. -/
theorem Formed.same {s t : State} (h : Formed s) (tables : t.tables = s.tables) (mode : t.mode = s.mode)
    (zones : t.zones = s.zones) (groups : t.groups = s.groups) : Formed t :=
  h.congr tables mode (fun z => by rw [zones]) fun g => by rw [groups]; exact .refl _

theorem Formed.fanFrame {s t : State} (h : Formed s) (frame : FanFrame s t) : Formed t :=
  h.same (by rw [frame]) (by rw [frame]) (by rw [frame]) (by rw [frame])

theorem Formed.kept {s t : State} (h : Formed s) (frame : GroupFrame s t)
    (kept : ∀ g : Fin 4, StagesKept s.groups[g] t.groups[g]) : Formed t :=
  h.congr frame.tables frame.mode (fun z => by rw [frame]) kept

theorem Formed.judgeAll {s : State} (h : Formed s) : Formed (judgeAll s) := h.same rfl rfl rfl rfl
theorem Formed.judgeAlarm {s : State} (h : Formed s) : Formed (judgeAlarm s) := h.same rfl rfl rfl rfl
theorem Formed.judgeFans {s : State} (h : Formed s) : Formed (judgeFans s) := h.same rfl rfl rfl rfl
theorem Formed.judgeVent {s : State} (h : Formed s) : Formed (judgeVent s) := h.same rfl rfl rfl rfl

theorem floorOf_le {s : State} (tables : s.tables.InRange) (g : Fin 4) : floorOf s g ≤ 4 := by
  obtain ⟨-, -, groups, -⟩ := tables
  exact (floorOf_le_demandOf s g).trans (demandOf_le (groups g))

/-- What the record of a group must satisfy to be formed again: its contexts' stages, and its commanded stage below 5. -/
def Restageable (mode : Mode) (r : GroupRecord) : Prop :=
  (∀ c ∈ r.stack, c.stage ≤ 4) ∧ if mode = .standby then r.commanded = 0 else r.commanded ≤ 4

theorem GroupStaged.restageable {s : State} {g : Fin 4} (h : GroupStaged s g) : Restageable s.mode s.groups[g] := by
  refine ⟨h.contexts, ?_⟩
  have commanded := h.commanded
  split at commanded
  · rename_i idle; rw [if_pos idle]; exact commanded
  · rename_i active; rw [if_neg active]; exact commanded.2

/-- R83 to R85, R93: a recomputed record is formed. -/
theorem GroupStaged.of_restaged {s t : State} {g : Fin 4} (record : t.groups[g] = restagedGroup s g) (mode : t.mode = s.mode)
    (stages : demandOf t g = demandOf s g ∧ floorOf t g = floorOf s g) (may : Restageable s.mode s.groups[g])
    (range : floorOf s g ≤ 4) : GroupStaged t g := by
  obtain ⟨demand, floor⟩ := stages
  obtain ⟨contexts, commanded⟩ := may
  have eq := restagedGroup_eq s g
  refine ⟨?_, ?_, ?_, ?_, ?_, ?_⟩
  · rw [record, demand, eq]
  · rw [record, floor, eq]
  · rw [record, mode]
    conv_lhs => rw [eq]
  · rw [record, mode]
    split
    · rename_i idle
      rw [if_pos idle] at commanded
      rw [eq]; dsimp only
      rw [if_neg fun h => h.1 idle]; exact commanded
    · rename_i active
      rw [if_neg active] at commanded
      rw [eq]; dsimp only
      split
      · exact ⟨le_refl _, range⟩
      · rename_i reached
        exact ⟨Nat.le_of_not_lt fun low => reached ⟨active, low⟩, commanded⟩
  · rw [record, eq]; exact contexts
  · rw [record, mode]; exact handOverDue_iff s.mode (restaged s g)

/-- Recomputing groups of a state whose other groups are formed. -/
theorem Restaged.formed {gs : List (Fin 4)} {s t : State} (h : Restaged gs s t) (tables : s.tables.InRange)
    (may : ∀ g ∈ gs, Restageable s.mode s.groups[g]) (others : ∀ g, g ∉ gs → GroupStaged s g) : Formed t := by
  have mode := h.frame.mode
  have sameTables := h.frame.tables
  have stages : ∀ g, demandOf t g = demandOf s g ∧ floorOf t g = floorOf s g := fun g =>
    stages_congr mode (by rw [sameTables]) (by unfold memberZones; rw [sameTables]) fun z _ => by rw [h.frame.zones]
  refine ⟨sameTables ▸ tables, fun g => ?_⟩
  have record := h.groups g
  by_cases listed : g ∈ gs
  · rw [if_pos listed] at record
    exact .of_restaged record mode (stages g) (may g listed) (floorOf_le tables g)
  · rw [if_neg listed] at record
    exact (others g listed).congr mode (stages g) (.of_eq record)

/-! ## Operations that leave the stages -/

theorem recomputeRunSet_kept (g : Fin 4) (s : State) (h : Fin 4) :
    StagesKept s.groups[h] (recomputeRunSet g s).groups[h] := by
  rw [recomputeRunSet_groups]
  by_cases same : g = h
  · subst same; simp only [Fin.getElem_fin, Vector.getElem_set_self]; rfl
  · have ne : g.val ≠ h.val := fun k => same (Fin.ext k)
    simp only [Fin.getElem_fin, Vector.getElem_set_ne _ _ ne]; rfl

theorem forEachGroup_kept (gs : List (Fin 4)) (s : State) (h : Fin 4) :
    StagesKept s.groups[h] (forEachGroup gs recomputeRunSet s).groups[h] :=
  forEachGroup_induction (P := fun t => StagesKept s.groups[h] t.groups[h]) (.refl _) (fun _ _ k => k)
    fun g _ t k => k.trans (recomputeRunSet_kept g t h)

theorem Formed.recomputeRunSet {s : State} (h : Formed s) (g : Fin 4) : Formed (recomputeRunSet g s) :=
  h.kept (recomputeRunSet_groupFrame g s) (recomputeRunSet_kept g s)

theorem judgeGroup_turnFrame (g : Fin 4) (s : State) : TurnFrame s (judgeGroup g s) :=
  forEachFree_induction (P := TurnFrame s) (fun _ => rfl) fun f _ t k =>
    (k.trans (judgeFan_fanFrame f t).turn).trans rfl

theorem Formed.superviseGroup {s : State} (h : Formed s) (g : Fin 4) : Formed (superviseGroup g s) := by
  have judged : Formed (judgeGroup g s) := by
    have frame := judgeGroup_turnFrame g s
    exact h.same frame.tables (by rw [frame]) (by rw [frame]) frame.groups
  unfold Machine.superviseGroup failOver; split
  · exact judged.recomputeRunSet g
  · exact judged

theorem countExpiry_record (g : Fin 4) (s : State) (h : Fin 4) :
    (countExpiry g s).groups[h] = { s.groups[h] with stack := (countExpiry g s).groups[h].stack } := by
  unfold countExpiry; dsimp only; split
  · split
    · rw [groups_setGroup]; split
      · rename_i is; subst is; rfl
      · rfl
    · rfl
  · rfl

/-- R92: counting an expiry leaves the kinds and the stages of the contexts. -/
theorem Formed.countExpiry {s : State} (h : Formed s) (g : Fin 4) : Formed (countExpiry g s) := by
  have frame := countExpiry_groupFrame g s
  refine ⟨frame.tables ▸ h.tables, fun k => ?_⟩
  have stages : demandOf (Machine.countExpiry g s) k = demandOf s k ∧ floorOf (Machine.countExpiry g s) k = floorOf s k :=
    stages_congr frame.mode (by rw [frame.tables]) (by unfold memberZones; rw [frame.tables]) fun z _ => by rw [frame]
  have before := h.groups k
  rcases countExpiry_stacks g k s with same | ⟨c, cs, n, was, now⟩
  · exact before.congr frame.mode stages (.of_eq (by rw [countExpiry_record, same]))
  · have record : (Machine.countExpiry g s).groups[k] = { s.groups[k] with stack := { c with expiry := n } :: cs } := by
      rw [countExpiry_record, now]
    have stageBounds := before.contexts
    rw [was] at stageBounds
    refine ⟨?_, ?_, ?_, ?_, ?_, ?_⟩
    · rw [record, stages.1]; exact before.demand
    · rw [record, stages.2]; exact before.floor
    · have effective := before.effective
      unfold effectiveOf at effective ⊢
      rw [record, frame.mode]; rw [was] at effective; exact effective
    · rw [record, frame.mode]; exact before.commanded
    · rw [record]
      exact fun x mem => (List.mem_cons.mp mem).elim (fun is => is ▸ stageBounds c List.mem_cons_self)
        fun mem => stageBounds x (List.mem_cons_of_mem _ mem)
    · have flag := before.handOver
      unfold HandOverHolds at flag ⊢
      rw [record, frame.mode]; rw [was] at flag
      rw [flag]; simp

/-! ## The stage update -/

/-- R84: the effective stage lies between the floor and 4. -/
theorem GroupStaged.effective_bounds {s : State} {g : Fin 4} (h : GroupStaged s g) (tables : s.tables.InRange)
    (active : s.mode ≠ .standby) :
    s.groups[g].floor ≤ s.groups[g].effective ∧ s.groups[g].effective ≤ 4 := by
  obtain ⟨-, -, groups, -⟩ := tables
  have low : s.groups[g].floor ≤ s.groups[g].demand := by rw [h.demand, h.floor]; exact floorOf_le_demandOf s g
  have high : s.groups[g].demand ≤ 4 := by rw [h.demand]; exact demandOf_le (groups g)
  have contexts := h.contexts
  rw [h.effective]; unfold effectiveOf; rw [if_neg active]
  split
  · exact ⟨low, high⟩
  · rename_i c cs top
    have := contexts c (by rw [top]; exact List.mem_cons_self)
    split <;> omega

theorem stepStage_record (n : Nat) (r : GroupRecord) :
    stepStage n r = { r with commanded := (stepStage n r).commanded, runOn := (stepStage n r).runOn } := by
  unfold stepStage
  repeat' split
  all_goals rfl

theorem Formed.updateStage {s : State} (h : Formed s) (g : Fin 4) : Formed (updateStage g s) := by
  refine ⟨h.tables, fun k => ?_⟩
  have stages : demandOf (Machine.updateStage g s) k = demandOf s k ∧ floorOf (Machine.updateStage g s) k = floorOf s k :=
    stages_congr (by rfl) (by rfl) (by rfl) fun z _ => rfl
  have written : (Machine.updateStage g s).groups[k] = _ := groups_setGroup g k _ s
  by_cases same : g = k
  · subst same
    rw [if_pos rfl] at written
    have before := h.groups g
    have record := written.trans (stepStage_record _ _)
    have mode : (Machine.updateStage g s).mode = s.mode := rfl
    obtain ⟨low, high⟩ := stepStage_commanded_between s.tables.groups[g].runOn s.groups[g]
    have commanded := before.commanded
    refine ⟨?_, ?_, ?_, ?_, ?_, ?_⟩
    · rw [record, stages.1]; exact before.demand
    · rw [record, stages.2]; exact before.floor
    · rw [record, mode, effectiveOf_congr (r := s.groups[g]) (by rfl) (by rfl) (by rfl)]; exact before.effective
    · rw [record, mode]
      split
      · rename_i idle
        rw [if_pos idle] at commanded
        have effective := before.effective
        unfold effectiveOf at effective; rw [if_pos idle] at effective
        rw [commanded, effective] at high
        exact Nat.le_zero.mp high
      · rename_i active
        rw [if_neg active] at commanded
        have bounds := before.effective_bounds h.tables active
        dsimp only; omega
    · rw [record]; exact before.contexts
    · rw [record, mode]; exact before.handOver
  · rw [if_neg same] at written
    exact (h.groups k).congr (by rfl) stages (.of_eq written)

/-! ## A changed stack -/

/-- R84, R90 to R93: the record of the group whose stack has changed. -/
theorem changeStack_own (g : Fin 4) (cs : List Context) (s : State) :
    (changeStack g cs s).groups[g] = { s.groups[g] with
      stack := cs, effective := effectiveOf s.mode { s.groups[g] with stack := cs }
      handOver := handOverDue s.mode { s.groups[g] with stack := cs } } := by
  rw [changeStack_groups]; exact Vector.getElem_set_self _

theorem changeStack_other {g k : Fin 4} (other : k ≠ g) (cs : List Context) (s : State) :
    (changeStack g cs s).groups[k] = s.groups[k] := by
  have ne : g.val ≠ k.val := fun eq => other (Fin.ext eq).symm
  rw [changeStack_groups]; exact Vector.getElem_set_ne _ _ ne

/-- R90 to R93: the record of a group whose stack has changed is formed. -/
theorem Formed.changeStack {s : State} (h : Formed s) (g : Fin 4) {cs : List Context} (contexts : ∀ c ∈ cs, c.stage ≤ 4) :
    Formed (changeStack g cs s) := by
  have frame := changeStack_groupFrame g cs s
  refine ⟨frame.tables ▸ h.tables, fun k => ?_⟩
  have stages : demandOf (Machine.changeStack g cs s) k = demandOf s k ∧ floorOf (Machine.changeStack g cs s) k = floorOf s k :=
    stages_congr frame.mode (by rw [frame.tables]) (by unfold memberZones; rw [frame.tables]) fun z _ => by rw [frame]
  by_cases same : g = k
  · subst same
    have before := h.groups g
    have record := changeStack_own g cs s
    refine ⟨?_, ?_, ?_, ?_, ?_, ?_⟩
    · rw [record, stages.1]; exact before.demand
    · rw [record, stages.2]; exact before.floor
    · rw [record, frame.mode]; exact effectiveOf_congr (by rfl) (by rfl) (by rfl)
    · rw [record, frame.mode]; exact before.commanded
    · rw [record]; exact contexts
    · rw [record, frame.mode]; exact handOverDue_iff s.mode _
  · exact (h.groups k).congr frame.mode stages (.of_eq (changeStack_other (Ne.symm same) cs s))

theorem Formed.expireTop {s : State} (h : Formed s) (g : Fin 4) : Formed (expireTop g s) := by
  unfold Machine.expireTop; split
  · rename_i c cs top
    have contexts := (h.groups g).contexts
    have posted : Formed (post .overrideExpired g.val c.tag s) := h.fanFrame (post_fanFrame _ _ _ s)
    have changed := posted.changeStack g (cs := cs) fun x mem => contexts x (by rw [top]; exact List.mem_cons_of_mem _ mem)
    exact changed.same rfl rfl rfl rfl
  · exact h

/-! ## A zone's record -/

theorem replaceZone_eq (z : Fin 16) (new : ZoneRecord) (s : State) :
    replaceZone z new s = { s with
      zones := s.zones.set z new, events := (replaceZone z new s).events, lost := (replaceZone z new s).lost } := by
  unfold replaceZone postSpill postRising postZoneState; dsimp only
  repeat' split
  all_goals rfl

theorem zones_replaceZone (z y : Fin 16) (new : ZoneRecord) (s : State) :
    (replaceZone z new s).zones[y] = if z = y then new else s.zones[y] := by
  rw [replaceZone_eq]; exact zones_setZone z y new s

/-- R78: the groups a zone's mask does not hold do not read its record. -/
theorem stages_replaceZone {z : Fin 16} {new : ZoneRecord} {s : State} {g : Fin 4} (unserved : z ∉ memberZones s g) :
    demandOf (replaceZone z new s) g = demandOf s g ∧ floorOf (replaceZone z new s) g = floorOf s g := by
  have frame := replaceZone_zoneFrame z new s
  refine stages_congr frame.mode (by rw [frame.tables]) (by unfold memberZones; rw [frame.tables]) fun y mem => ?_
  rw [zones_replaceZone, if_neg fun is : z = y => unserved (is ▸ mem)]

theorem Formed.writeZone {s : State} (h : Formed s) (z : Fin 16) (new : ZoneRecord) : Formed (writeZone z new s) := by
  have frame := replaceZone_zoneFrame z new s
  have groups : (replaceZone z new s).groups = s.groups := by rw [replaceZone_eq]
  unfold Machine.writeZone; dsimp only
  refine Formed.same ?_ (judgeAlarm_groupFrame _).tables (judgeAlarm_groupFrame _).mode rfl rfl
  split
  · rename_i inputs
    refine h.congr frame.tables frame.mode (fun y => ?_) fun g => by rw [groups]; exact .refl _
    rw [zones_replaceZone]; split
    · rename_i is; subst is; exact inputs.symm
    · rfl
  · have restaged := forEachGroup_restaged (servedGroups_nodup s.tables.zones[z].groupMask) (replaceZone z new s)
    refine restaged.formed (frame.tables ▸ h.tables) (fun g _ => ?_) fun g unlisted => ?_
    · rw [groups, frame.mode]; exact (h.groups g).restageable
    · have unserved : z ∉ memberZones s g := fun mem => unlisted (mem_servedGroups.mpr (mem_memberZones.mp mem).2)
      exact (h.groups g).congr frame.mode (stages_replaceZone unserved) (.of_eq (by rw [groups]))

theorem Formed.evaluateZone {s : State} (h : Formed s) (z : Fin 16) : Formed (evaluateZone z s) := by
  unfold Machine.evaluateZone evaluateSpill evaluateContacts evaluateRising evaluateGas
  exact (((h.writeZone z _).writeZone z _).writeZone z _).writeZone z _

/-! ## Applied records -/

theorem forall_set {α : Type} {n : Nat} {p : α → Prop} {v : Vector α n} {i : Fin n} {x : α} (all : ∀ j : Fin n, p v[j])
    (new : p x) (j : Fin n) : p (v.set i x)[j] := by
  rw [Fin.getElem_fin, Vector.getElem_set]; split
  · exact new
  · exact all j

/-- R1, R153, R161: an applied record leaves every entry within its range. -/
theorem Tables.InRange.set {ts : Tables} (h : ts.InRange) :
    (∀ (i : Fin 64) (e : Binding), e.inRange = true → Tables.InRange { ts with bindings := ts.bindings.set i e }) ∧
    (∀ (z : Fin 16) (e : ZoneEntry), e.inRange = true → Tables.InRange { ts with zones := ts.zones.set z e }) ∧
    (∀ (g : Fin 4) (e : GroupEntry), e.inRange = true → Tables.InRange { ts with groups := ts.groups.set g e }) ∧
    (∀ (f : Fin 8) (e : FanEntry), e.inRange = true → Tables.InRange { ts with fans := ts.fans.set f e }) ∧
    ∀ e : DeviceEntry, e.inRange = true → Tables.InRange { ts with device := e } := by
  obtain ⟨bindings, zones, groups, fans, device⟩ := h
  exact ⟨fun i e range => ⟨forall_set (p := fun b => Binding.inRange b = true) bindings range, zones, groups, fans, device⟩,
    fun z e range => ⟨bindings, forall_set (p := fun e => ZoneEntry.inRange e = true) zones range, groups, fans, device⟩,
    fun g e range => ⟨bindings, zones, forall_set (p := fun e => GroupEntry.inRange e = true) groups range, fans, device⟩,
    fun f e range => ⟨bindings, zones, groups, forall_set (p := fun e => FanEntry.inRange e = true) fans range, device⟩,
    fun e range => ⟨bindings, zones, groups, fans, range⟩⟩

theorem storedZone_inRange {e : ZoneEntry} (range : e.inRange = true) : (storedZone e).inRange = true := by
  simp only [ZoneEntry.inRange, decide_eq_true_eq] at range
  obtain ⟨watch, alert, alarm, hysteresis, rest⟩ := range
  exact decide_eq_true ⟨watch, alert, alarm, (Nat.min_le_left _ _).trans hysteresis, rest⟩

/-- The ZONES table with one entry replaced: a group that neither entry serves keeps its members. -/
theorem memberZones_set {s : State} {z : Fin 16} {e : ZoneEntry} {g : Fin 4}
    (before : z ∉ memberZones s g) (after : ¬ (e.enabled = true ∧ e.groupMask.getLsbD g.val = true)) :
    memberZones { s with tables := { s.tables with zones := s.tables.zones.set z e } } g = memberZones s g := by
  rw [mem_memberZones] at before
  refine List.filter_congr fun y _ => ?_
  by_cases same : z = y
  · subst same
    simp only [Fin.getElem_fin, Vector.getElem_set_self] at before ⊢
    rw [Bool.eq_iff_iff, Bool.and_eq_true, Bool.and_eq_true]
    exact iff_of_false after before
  · have ne : z.val ≠ y.val := fun k => same (Fin.ext k)
    simp only [Fin.getElem_fin, Vector.getElem_set_ne _ _ ne]

theorem Formed.applyZone {s : State} (h : Formed s) (z : Fin 16) {e : ZoneEntry} (range : e.inRange = true) :
    Formed (applyZone z e s) := by
  obtain ⟨-, zonesSet, -⟩ := h.tables.set
  have tables := zonesSet z (storedZone e) (storedZone_inRange range)
  -- a group that neither the old nor the new entry serves
  have unserved : ∀ g, z ∉ memberZones s g → ¬ ((storedZone e).enabled = true ∧ (storedZone e).groupMask.getLsbD g.val = true) →
      GroupStaged { s with tables := { s.tables with zones := s.tables.zones.set z (storedZone e) } } g := fun g old new =>
    (h.groups g).congr (by rfl) (stages_congr (by rfl) (by rfl) (memberZones_set old new) fun _ _ => rfl) (.refl _)
  unfold Machine.applyZone; dsimp only
  split
  · exact h
  · split
    · rename_i quiet
      refine ⟨tables, fun g => ?_⟩
      rcases quiet with idle | ⟨old, new⟩
      · exact (h.groups g).standby idle (by rfl) (by rfl)
      · refine unserved g (fun mem => ?_) fun served => ?_
        · rw [(mem_memberZones.mp mem).1] at old; cases old
        · rw [served.1] at new; cases new
    · have frame := replaceZone_zoneFrame z (rezoned s.tables.zones[z] (storedZone e) s.zones[z])
        { s with tables := { s.tables with zones := s.tables.zones.set z (storedZone e) } }
      have groups : (replaceZone z (rezoned s.tables.zones[z] (storedZone e) s.zones[z])
        { s with tables := { s.tables with zones := s.tables.zones.set z (storedZone e) } }).groups = s.groups := by
        rw [replaceZone_eq]
      refine (forEachGroup_restaged (servedGroups_nodup _) _).formed (frame.tables ▸ tables) (fun g _ => ?_)
        fun g unlisted => ?_
      · rw [groups, frame.mode]; exact (h.groups g).restageable
      · rw [mem_servedGroups, BitVec.getLsbD_or, Bool.or_eq_true, not_or] at unlisted
        obtain ⟨old, new⟩ := unlisted
        have absent : z ∉ memberZones s g := fun mem => old (mem_memberZones.mp mem).2
        have still := unserved g absent fun served => new served.2
        refine still.congr frame.mode (stages_replaceZone ?_) (.of_eq (by rw [groups]))
        rw [memberZones_set absent fun served => new served.2]; exact absent

theorem Formed.applyGroup {s : State} (h : Formed s) (g : Fin 4) {e : GroupEntry} (range : e.inRange = true) :
    Formed (applyGroup g e s) := by
  obtain ⟨-, -, groupsSet, -⟩ := h.tables.set
  have tables := groupsSet g e range
  unfold Machine.applyGroup; dsimp only
  split
  · exact h
  · split
    · rename_i idle
      exact ⟨tables, fun k => (h.groups k).standby idle (by rfl) (by rfl)⟩
    · refine Formed.recomputeRunSet ((restage_restaged g _).formed tables (fun k mem => ?_) fun k unlisted => ?_) g
      · have is := List.mem_singleton.mp mem
        subst is
        rw [groups_setGroup, if_pos rfl]; exact (h.groups k).restageable
      · have other : g ≠ k := fun is => unlisted (List.mem_singleton.mpr is.symm)
        have ne : g.val ≠ k.val := fun is => other (Fin.ext is)
        have map : (s.tables.groups.set g e)[k].stageMap = s.tables.groups[k].stageMap := by
          simp only [Fin.getElem_fin, Vector.getElem_set_ne _ _ ne]
        refine (h.groups k).congr (by rfl) (stages_congr (by rfl) map (by rfl) fun _ _ => rfl) (.of_eq ?_)
        rw [groups_setGroup, if_neg other]

theorem joinHandOver_fanFrame (f : Fin 8) (e : FanEntry) (s : State) : FanFrame s (joinHandOver f e s) := by
  unfold joinHandOver; split
  · exact manualFan_fanFrame f s
  · rfl

theorem Formed.applyFan {s : State} (h : Formed s) (f : Fin 8) {e : FanEntry} (range : e.inRange = true) :
    Formed (applyFan f e s) := by
  obtain ⟨-, -, -, fansSet, -⟩ := h.tables.set
  have written : Formed { s with tables := { s.tables with fans := s.tables.fans.set f e } } :=
    ⟨fansSet f e range, fun k => (h.groups k).congr (by rfl) (stages_congr (by rfl) (by rfl) (by rfl) fun _ _ => rfl) (.refl _)⟩
  have restarted := (written.fanFrame (changeFan_fanFrame f FanRecord.cleared _)).fanFrame (joinHandOver_fanFrame f e _)
  unfold Machine.applyFan; dsimp only
  split
  · exact h
  · split
    · exact restarted.recomputeRunSet _
    · exact (restarted.recomputeRunSet _).recomputeRunSet _

theorem Formed.applyBinding {s : State} (h : Formed s) (i : Fin 64) {e : Binding} (range : e.inRange = true) :
    Formed (applyBinding i e s) := by
  obtain ⟨bindingsSet, -⟩ := h.tables.set
  have written : Formed { s with tables := { s.tables with bindings := s.tables.bindings.set i e } } :=
    ⟨bindingsSet i e range,
      fun k => (h.groups k).congr (by rfl) (stages_congr (by rfl) (by rfl) (by rfl) fun _ _ => rfl) (.refl _)⟩
  unfold Machine.applyBinding takeNotice; dsimp only
  split <;> exact written.same rfl rfl rfl rfl

theorem Formed.applyChange {s : State} (h : Formed s) {c : Change} (range : c.InRange) : Formed (applyChange c s) := by
  cases c with
  | binding i e => exact h.applyBinding i range
  | zone z e => exact h.applyZone z range
  | group g e => exact h.applyGroup g range
  | fan f e => exact h.applyFan f range
  | device e =>
    obtain ⟨-, -, -, -, deviceSet⟩ := h.tables.set
    exact ⟨deviceSet e range,
      fun k => (h.groups k).congr (by rfl) (stages_congr (by rfl) (by rfl) (by rfl) fun _ _ => rfl) (.refl _)⟩

theorem Formed.applyRecords {s : State} (h : Formed s) {cs : List Change} (ranges : ∀ c ∈ cs, c.InRange) :
    Formed (applyRecords cs s).1 := by
  induction cs generalizing s with
  | nil => exact h
  | cons c cs ih =>
    have rest : ∀ c ∈ cs, c.InRange := fun x mem => ranges x (List.mem_cons_of_mem _ mem)
    unfold Machine.applyRecords; split
    · exact ih ((h.applyChange (ranges c List.mem_cons_self)).same rfl rfl rfl rfl) rest
    · exact ih (h.fanFrame (post_fanFrame _ _ _ s)) rest

theorem Formed.closeTables {s : State} (h : Formed s) (n : Nat) : Formed (closeTables n s) := by
  unfold Machine.closeTables; dsimp only; split
  · exact h
  · have closed := h.kept (forEachGroup_groupFrame recomputeRunSet_groupFrame s) (forEachGroup_kept (List.finRange 4) s)
    exact closed.same rfl rfl rfl rfl

theorem Staged.applyPoint {s : State} (h : Staged s) : Staged (applyPoint s) := by
  rcases applyPoint_cases s with eq | ⟨-, -, -, eq⟩
  · rw [eq]; exact h
  · have closed := (h.formed.applyRecords h.changes).closeTables (Machine.applyRecords s.changes s).2.1
    rw [eq]
    exact ⟨closed.same rfl rfl rfl rfl, fun c mem => nomatch mem⟩

/-! ## The work of a completion -/

theorem Formed.doWork {s : State} (h : Formed s) (w : Work) : Formed (doWork w s) := by
  cases w with
  | age =>
    show Formed (ageChannels s)
    rw [ageChannels_frame]; exact h.same rfl rfl rfl rfl
  | evaluate z => exact h.evaluateZone z
  | endPass => exact h.same rfl rfl rfl rfl
  | stepBegins g => exact h.fanFrame (beginGroupStep_fanFrame g s)
  | countExpiry g => exact h.countExpiry g
  | stageUpdate g => exact h.updateStage g
  | startsStops g => exact (h.fanFrame (startsAndStops_fanFrame g s)).judgeAlarm
  | supervise g => exact h.superviseGroup g
  | setpoints g => exact (h.fanFrame (writeSetpoints_fanFrame g s)).judgeFans
  | countHold => unfold Machine.doWork; dsimp only; split <;> exact h.same rfl rfl rfl rfl
  | countWarmup => unfold Machine.doWork; dsimp only; split <;> exact h.same rfl rfl rfl rfl
  | countFaulted => unfold Machine.doWork; dsimp only; split <;> exact h.same rfl rfl rfl rfl
  | close =>
    unfold Machine.doWork; dsimp only; split
    · unfold beginDispatch dispatchNext; dsimp only; split
      · exact h.same rfl rfl rfl rfl
      · split <;> exact h.same rfl rfl rfl rfl
    · exact h

/-! ## Modes -/

/-- R83, R93, R106: at a mode change into WARMUP or RUN every group's record is formed. -/
theorem Formed.regroup {s : State} (tables : s.tables.InRange) (may : ∀ g : Fin 4, Restageable s.mode s.groups[g]) :
    Formed (regroup s) := by
  have restaged := (forEachGroup_restaged (List.nodup_finRange 4) s).formed tables (fun g _ => may g)
    fun g unlisted => absurd (List.mem_finRange g) unlisted
  exact restaged.kept (forEachGroup_groupFrame recomputeRunSet_groupFrame _) (forEachGroup_kept _ _)

theorem Formed.enterRun {s : State} (h : Formed s) (warm : s.mode = .warmup) : Formed (enterRun s) := by
  have regrouped : Formed (Machine.regroup (changeMode .run { s with warmupLeft := 0 })) := by
    refine .regroup h.tables fun g => ?_
    have may := (h.groups g).restageable
    rw [warm] at may; exact may
  exact regrouped.judgeAll

theorem Formed.enterWarmup {s : State} (h : Formed (applyPoint s)) (idle : s.mode = .standby) : Formed (enterWarmup s) := by
  have regrouped : Formed (Machine.regroup (warmupZones (changeMode .warmup
      { Machine.applyPoint s with warmupLeft := (Machine.applyPoint s).tables.device.warmupCount }))) := by
    refine .regroup h.tables fun g => ?_
    obtain ⟨contexts, commanded⟩ := (h.groups g).restageable
    rw [if_pos ((applyPoint_applyFrame s).mode.trans idle)] at commanded
    exact ⟨contexts, commanded.le.trans (Nat.zero_le 4)⟩
  have segment : ∀ t : State, SegmentFrame t (warmupSegment t) := warmupSegment_frame
  have timed : ∀ t u : State, SegmentFrame t u → Formed t → Formed { u with timerOn := true } := fun t u frame formed => by
    unfold SegmentFrame at frame
    exact formed.same (by rw [frame]) (by rw [frame]) (by rw [frame]) (by rw [frame])
  exact (timed _ _ (segment _) regrouped).judgeAll

/-- R99: the group records at STANDBY entry; the stacks are kept. -/
theorem enterStandby_groups (s : State) (g : Fin 4) :
    StagesKept (standbyGroup s.groups[g]) (enterStandby s).groups[g] := by
  have port : (standbyPort (changeMode .standby { s with warmupLeft := 0 })).groups = s.groups := by
    unfold standbyPort changeSegment changeMode; dsimp only; split <;> rfl
  unfold enterStandby; dsimp only
  rw [judgeAll_groups]
  refine StagesKept.trans ?_ (forEachGroup_kept _ _ g)
  simp only [Fin.getElem_fin, Vector.getElem_ofFn, port]
  exact .refl _

/-- A group's record in STANDBY: every stage 0, no hand-over, and the contexts within their stages. -/
theorem GroupStaged.of_standby {s : State} {g : Fin 4} (idle : s.mode = .standby) {stack : List Context}
    (contexts : ∀ c ∈ stack, c.stage ≤ 4)
    (kept : StagesKept (standbyGroup { GroupRecord.cleared with stack := stack }) s.groups[g]) : GroupStaged s g := by
  unfold StagesKept at kept
  obtain ⟨demand, floor⟩ := stages_standby idle g
  refine ⟨?_, ?_, ?_, ?_, ?_, ?_⟩
  · rw [kept, demand]; rfl
  · rw [kept, floor]; rfl
  · rw [kept]; unfold effectiveOf; rw [if_pos idle]; rfl
  · rw [if_pos idle, kept]; rfl
  · rw [kept]; exact contexts
  · rw [kept]; exact iff_of_false nofun fun due => due.1 idle

theorem Formed.enterStandby {s : State} (h : Formed s) : Formed (enterStandby s) := by
  have frame := enterStandby_frame s
  refine ⟨by rw [frame]; exact h.tables, fun g => ?_⟩
  have cleared : StagesKept (standbyGroup { GroupRecord.cleared with stack := s.groups[g].stack }) (standbyGroup s.groups[g]) := rfl
  exact .of_standby (by rw [frame]) (h.groups g).contexts (cleared.trans (enterStandby_groups s g))

theorem Staged.restartRuntime {s : State} (tables : s.tables.InRange) : Staged (restartRuntime s) := by
  refine ⟨⟨tables, fun g => .of_standby (stack := []) (by rfl) nofun ?_⟩, nofun⟩
  show StagesKept _ (computedRunSets s.tables _ (Vector.replicate 4 GroupRecord.cleared))[g]
  unfold computedRunSets
  simp only [Fin.getElem_fin, Vector.getElem_ofFn, Vector.getElem_replicate]
  rfl

/-! ## Every step -/

theorem takeEntries_inRange (t : TableId) (index : Nat) (es : List (List Byte)) {list : List Change}
    (h : ∀ c ∈ list, c.InRange) : ∀ c ∈ (takeEntries t index es list).1, c.InRange := by
  induction es generalizing index list with
  | nil => exact h
  | cons e es ih =>
    unfold takeEntries; split
    · exact h
    · rename_i c decoded
      split
      · refine ih _ fun x mem => ?_
        rcases List.mem_append.mp mem with old | new
        · exact h x old
        · rw [List.mem_singleton.mp new]; exact decodeChange_inRange decoded
      · exact h

theorem acknowledge_inputs (r : ZoneRecord) : stagingInputs (acknowledgeRecord r) = stagingInputs r := rfl

/-- Every move keeps the groups' records formed. -/
theorem Staged.move {c : Instr} {s₀ s t : State} (h : Move c s₀ s t) (before : Staged s) : Staged t := by
  obtain ⟨formed, changes⟩ := before
  cases h with
  | plain frame =>
    unfold PlainFrame at frame
    exact ⟨formed.same (by rw [frame]) (by rw [frame]) (by rw [frame]) (by rw [frame]), by rw [frame]; exact changes⟩
  | deviceReset straps rate s => exact .restartRuntime (loadTables_inRange _)
  | restart s => exact .restartRuntime formed.tables
  | applyPoint s => exact Staged.applyPoint ⟨formed, changes⟩
  | takePoint node status p s => rw [takePoint_frame]; exact ⟨formed.same rfl rfl rfl rfl, changes⟩
  | markSettling i s => rw [markSettling_frame]; exact ⟨formed.same rfl rfl rfl rfl, changes⟩
  | doWork w s => exact ⟨formed.doWork w, by rw [doWork_workFrame w s]; exact changes⟩
  | expireTop g s => exact ⟨formed.expireTop g, by rw [expireTop_groupFrame g s]; exact changes⟩
  | expireHold s => exact ⟨formed.same rfl rfl rfl rfl, fun c mem => nomatch mem⟩
  | enterRun s _ warm => exact ⟨formed.enterRun warm, by rw [enterRun_frame]; exact changes⟩
  | discard s => exact ⟨formed.same rfl rfl rfl rfl, fun c mem => nomatch mem⟩
  | append t index entries s => exact ⟨formed.same rfl rfl rfl rfl, takeEntries_inRange t index entries changes⟩
  | enterWarmup s _ idle =>
    obtain ⟨applied, left⟩ := Staged.applyPoint ⟨formed, changes⟩
    exact ⟨applied.enterWarmup idle, by rw [enterWarmup_frame]; exact left⟩
  | enterStandby s => exact ⟨formed.enterStandby, by rw [enterStandby_frame]; exact changes⟩
  | acknowledge z s =>
    refine ⟨formed.congr rfl rfl (fun y => ?_) fun g => .refl _, changes⟩
    show stagingInputs (setZone z _ s).zones[y] = _
    rw [zones_setZone]; split
    · rename_i is; subst is; exact acknowledge_inputs _
    · rfl
  | push g x s _ stage =>
    have contexts : ∀ c ∈ x :: s.groups[g].stack, c.stage ≤ 4 := fun c mem => by
      rcases List.mem_cons.mp mem with is | mem
      · rcases stage with low | held
        · rw [is]; exact low
        · have commanded := (formed.groups g).commanded
          rw [is, held]
          split at commanded
          · omega
          · exact commanded.2
      · exact (formed.groups g).contexts c mem
    exact ⟨(formed.changeStack g contexts).judgeVent, by
      rw [judgeVent_changes, changeStack_groupFrame g _ s]; exact changes⟩
  | pop g x xs s top =>
    have contexts : ∀ c ∈ xs, c.stage ≤ 4 := fun c mem =>
      (formed.groups g).contexts c (by rw [top]; exact List.mem_cons_of_mem _ mem)
    exact ⟨(formed.changeStack g contexts).judgeVent, by
      rw [judgeVent_changes, changeStack_groupFrame g _ s]; exact changes⟩
  | fanReset f s =>
    have frame := (changeFan_fanFrame f { s.fans[f] with state := .off, reason := .none } s).group.trans
      (recomputeRunSet_groupFrame (fanGroup s f) _)
    refine ⟨((formed.fanFrame (changeFan_fanFrame f _ s)).recomputeRunSet _).judgeFans, ?_⟩
    rw [judgeFans_changes, frame]; exact changes
  | _ => exact ⟨formed.same rfl rfl rfl rfl, changes⟩

/-- Settles O52: the records stay formed over every move; the stages are the largest of what calls; and one recomputation writes
the record and judges the hand-over. -/
theorem everyStepKeepsTheStagingLaws : Obligations.EveryStepKeepsTheStagingLaws := by
  refine ⟨fun s t staging handOver h => ?_, fun s g => ?_, fun s g => ?_, fun mode r => ?_⟩
  · rw [← staged_iff]
    exact step_keeps (P := Staged) (fun _ _ k => ⟨k.formed.same rfl rfl rfl rfl, k.changes⟩) (fun _ _ _ _ => Staged.move) h
      ((staged_iff s).mpr ⟨staging, handOver⟩)
  · refine ⟨fun idle => stages_standby idle g, fun active => ?_⟩
    have largest := stages_largest s g active
    simp only [mem_calledStages, mem_shownConditions] at largest
    exact largest
  · refine ⟨?_, ?_, restage_judged g s⟩
    · have frame := restage_stageFrame g s
      have groups : (restage g s).groups = s.groups.set g (restage g s).groups[g] := by
        rw [restage_groups]; ext1 k hk; simp [Vector.getElem_set]
      unfold StageFrame at frame
      rw [frame, ← groups]
    · rw [restage_own]; exact restagedGroup_eq s g
  · refine ⟨fun idle => if_pos idle, fun active empty => ?_, fun c cs active top => ?_⟩
    · unfold effectiveOf; rw [if_neg active, empty]
    · unfold effectiveOf; rw [if_neg active, top]

end Sys2Proof.Machine
end

section
/-! PROOFS. The contact outputs (chapter 7): the judgements against the four functions, and the output laws over every step
(O51). -/

namespace Sys2Proof.Machine

/-! ## Judgements -/

/-- R122, R123, R126, R127: CHARGE_PERMIT follows its function, and outside RUN the three outputs with a mode term are
de-energized. -/
structure OutputsFollow (s : State) : Prop where
  charge : s.outputs.chargePermit = true → chargeFunction s = true
  mode : ModeOutputsLaw s

theorem outputsFollow_iff (s : State) : OutputsFollow s ↔ ChargeLaw s ∧ ModeOutputsLaw s := by
  have blocked : chargeFunction s = false ↔
      s.mode ≠ .run ∨ ∃ z : Fin 16, s.zones[z].gas = .alert ∨ s.zones[z].gas = .alarm ∨ s.zones[z].gas = .fault := by
    rw [← Bool.not_eq_true, chargeFunction_iff, not_and_or, not_forall]
    simp only [not_and_or, not_not]
  constructor
  · rintro ⟨charge, mode⟩
    refine ⟨fun high => ?_, mode⟩
    by_contra energized
    have := charge (by simpa using energized)
    rw [blocked.mpr high] at this; cases this
  · rintro ⟨charge, mode⟩
    refine ⟨fun energized => ?_, mode⟩
    by_contra follows
    have := charge (blocked.mp (by simpa using follows))
    rw [energized] at this; cases this

/-- No permissive output that is de-energized in `s` is energized in `t`. -/
structure Lowers (s t : State) : Prop where
  charge : t.outputs.chargePermit = true → s.outputs.chargePermit = true
  vent : t.outputs.ventProven = true → s.outputs.ventProven = true
  healthy : t.outputs.healthy = true → s.outputs.healthy = true

theorem Lowers.of_same {s t : State} (same : t.outputs = s.outputs) : Lowers s t := by
  constructor <;> rw [same] <;> exact id

theorem Lowers.trans {s t u : State} (h : Lowers s t) (k : Lowers t u) : Lowers s u :=
  ⟨fun on => h.charge (k.charge on), fun on => h.vent (k.vent on), fun on => h.healthy (k.healthy on)⟩

theorem judgeAlarm_lowered (s : State) : Lowers s (judgeAlarm s) := by
  obtain ⟨charge, vent, healthy⟩ := judgeAlarm_lowers s
  exact ⟨fun on => (charge on).1, fun on => (vent on).1, fun on => (healthy on).1⟩

/-- Outside RUN an output that is not energized stays so. -/
theorem Lowers.modeOutputs {s t : State} (h : Lowers s t) (mode : t.mode = s.mode) (law : ModeOutputsLaw s) :
    ModeOutputsLaw t := fun off => by
  obtain ⟨charge, vent, healthy⟩ := law (mode ▸ off)
  have stays : ∀ {a b : Bool}, (a = true → b = true) → b = false → a = false := by
    intro a b imp off; subst off; simpa using imp
  exact ⟨stays h.charge charge, stays h.vent vent, stays h.healthy healthy⟩

/-- R122: the function of CHARGE_PERMIT reads the mode and the gas states. -/
theorem chargeFunction_congr {s t : State} (mode : t.mode = s.mode) (gas : ∀ z : Fin 16, t.zones[z].gas = s.zones[z].gas) :
    chargeFunction t = chargeFunction s := by
  rw [Bool.eq_iff_iff, chargeFunction_iff, chargeFunction_iff, mode]
  simp only [gas]

theorem OutputsFollow.lowers {s t : State} (h : OutputsFollow s) (lowers : Lowers s t) (mode : t.mode = s.mode)
    (zones : t.zones = s.zones) : OutputsFollow t :=
  ⟨fun on => by rw [chargeFunction_congr mode fun z => by rw [zones]]; exact h.charge (lowers.charge on),
    lowers.modeOutputs mode h.mode⟩

/-- A state that differs in what the outputs do not read. -/
theorem OutputsFollow.same {s t : State} (h : OutputsFollow s) (outputs : t.outputs = s.outputs) (mode : t.mode = s.mode)
    (zones : t.zones = s.zones) : OutputsFollow t := h.lowers (.of_same outputs) mode zones

/-- R121: after a judgement toward the alarming direction CHARGE_PERMIT follows, whatever the zones were before. -/
theorem outputsFollow_judgeAlarm {s : State} (law : ModeOutputsLaw s) : OutputsFollow (judgeAlarm s) :=
  ⟨fun on => ((judgeAlarm_lowers s).1 on).2, (judgeAlarm_lowered s).modeOutputs rfl law⟩

theorem ventLevel_outside_run {s : State} (off : s.mode ≠ .run) : ventLevel s = false := by
  unfold ventLevel; rw [(functions_outside_run off).2.1]

theorem outputsFollow_judgeAll (s : State) : OutputsFollow (judgeAll s) := by
  refine ⟨fun on => on, fun off => ?_⟩
  have off : s.mode ≠ .run := off
  exact ⟨(functions_outside_run off).1, ventLevel_outside_run off, (functions_outside_run off).2.2⟩

theorem OutputsFollow.judgeVent {s : State} (h : OutputsFollow s) : OutputsFollow (judgeVent s) :=
  ⟨h.charge, fun off => ⟨(h.mode off).1, ventLevel_outside_run off, (h.mode off).2.2⟩⟩

theorem OutputsFollow.judgeFans {s : State} (h : OutputsFollow s) : OutputsFollow (judgeFans s) :=
  ⟨h.charge, fun off => ⟨(h.mode off).1, ventLevel_outside_run off, (functions_outside_run off).2.2⟩⟩

theorem OutputsFollow.judgeHealthy {s : State} (h : OutputsFollow s) : OutputsFollow (judgeHealthy s) :=
  ⟨h.charge, fun off => ⟨(h.mode off).1, (h.mode off).2.1, (functions_outside_run off).2.2⟩⟩

/-! ## What the blocks leave of the outputs -/

theorem FanFrame.lowers {s t : State} (h : FanFrame s t) : Lowers s t := .of_same (by rw [h])
theorem StageFrame.lowers {s t : State} (h : StageFrame s t) : Lowers s t := .of_same h.outputs

theorem changeCondition_lowers (g : Fin 4) (s : State) : Lowers s (changeCondition g s) := by
  unfold changeCondition; dsimp only; split
  · exact .of_same rfl
  · have posted : ∀ r k n d, Lowers s (post k n d (setGroup g r s)) := fun _ _ _ _ => .of_same rfl
    exact (posted _ _ _ _).trans (judgeAlarm_lowered _)

theorem actOnMembers_outputs (g : Fin 4) (s : State) : (actOnMembers g s).outputs = s.outputs := by
  unfold actOnMembers
  rw [forEachFree_fanFrame (fun f => actOnMember_fanFrame g _ f) _]; rfl

theorem recomputeRunSet_lowers (g : Fin 4) (s : State) : Lowers s (recomputeRunSet g s) := by
  rw [recomputeRunSet_eq]
  exact (Lowers.of_same (actOnMembers_outputs g s)).trans (changeCondition_lowers g _)

theorem forEachGroup_lowers {gs : List (Fin 4)} {f : Fin 4 → State → State} (h : ∀ g s, Lowers s (f g s)) (s : State) :
    Lowers s (forEachGroup gs f s) :=
  forEachGroup_induction (P := Lowers s) (.of_same rfl) (fun _ _ k => k.trans (.of_same rfl)) fun g _ t k => k.trans (h g t)

theorem judgeGroup_lowers (g : Fin 4) (s : State) : Lowers s (judgeGroup g s) :=
  forEachFree_induction (P := Lowers s) (fun _ => .of_same rfl) fun f _ t k =>
    (k.trans (judgeFan_fanFrame f t).lowers).trans (judgeAlarm_lowered _)

theorem superviseGroup_lowers (g : Fin 4) (s : State) : Lowers s (superviseGroup g s) := by
  unfold superviseGroup failOver; split
  · exact (judgeGroup_lowers g s).trans (recomputeRunSet_lowers g _)
  · exact judgeGroup_lowers g s

theorem restage_lowers (g : Fin 4) (s : State) : Lowers s (restage g s) := (restage_stageFrame g s).lowers

theorem replaceZone_lowers (z : Fin 16) (new : ZoneRecord) (s : State) : Lowers s (replaceZone z new s) :=
  .of_same (by rw [replaceZone_eq])

/-- R121: the zones may have changed; CHARGE_PERMIT has followed them. -/
theorem OutputsFollow.writeZone {s : State} (h : OutputsFollow s) (z : Fin 16) (new : ZoneRecord) :
    OutputsFollow (writeZone z new s) := by
  have replaced := replaceZone_lowers z new s
  have frame := replaceZone_zoneFrame z new s
  unfold Machine.writeZone; dsimp only
  refine outputsFollow_judgeAlarm ?_
  split
  · exact replaced.modeOutputs frame.mode h.mode
  · exact (replaced.trans (forEachGroup_lowers restage_lowers _)).modeOutputs
      ((forEachGroup_groupFrame restage_groupFrame _).mode.trans frame.mode) h.mode

theorem OutputsFollow.evaluateZone {s : State} (h : OutputsFollow s) (z : Fin 16) : OutputsFollow (evaluateZone z s) := by
  unfold Machine.evaluateZone evaluateSpill evaluateContacts evaluateRising evaluateGas
  exact (((h.writeZone z _).writeZone z _).writeZone z _).writeZone z _

/-- An application ends in a judgement of all outputs (R160). -/
theorem OutputsFollow.applyPoint {s : State} (h : OutputsFollow s) : OutputsFollow (applyPoint s) := by
  rcases applyPoint_cases s with eq | ⟨-, -, -, eq⟩
  · rw [eq]; exact h
  · rw [eq]; exact outputsFollow_judgeAll _

theorem OutputsFollow.doWork {s : State} (h : OutputsFollow s) (w : Work) : OutputsFollow (doWork w s) := by
  have group : ∀ {t : State}, GroupFrame s t → Lowers s t → OutputsFollow t := fun frame lowers =>
    h.lowers lowers frame.mode (by rw [frame])
  cases w with
  | age =>
    show OutputsFollow (ageChannels s)
    rw [ageChannels_frame]; exact h.same rfl rfl rfl
  | evaluate z => exact h.evaluateZone z
  | endPass => exact outputsFollow_judgeAll s
  | stepBegins g => exact group (beginGroupStep_fanFrame g s).group (beginGroupStep_fanFrame g s).lowers
  | countExpiry g =>
    refine group (countExpiry_groupFrame g s) (.of_same ?_)
    show (countExpiry g s).outputs = _
    unfold countExpiry; dsimp only; split
    · split <;> rfl
    · rfl
  | stageUpdate g => exact h.same rfl rfl rfl
  | startsStops g =>
    exact outputsFollow_judgeAlarm ((startsAndStops_fanFrame g s).lowers.modeOutputs
      (startsAndStops_fanFrame g s).group.mode h.mode)
  | supervise g => exact group (superviseGroup_groupFrame g s) (superviseGroup_lowers g s)
  | setpoints g => exact (group (writeSetpoints_fanFrame g s).group (writeSetpoints_fanFrame g s).lowers).judgeFans
  | countHold => unfold Machine.doWork; dsimp only; split <;> exact h.same rfl rfl rfl
  | countWarmup => unfold Machine.doWork; dsimp only; split <;> exact h.same rfl rfl rfl
  | countFaulted => unfold Machine.doWork; dsimp only; split <;> exact h.same rfl rfl rfl
  | close =>
    unfold Machine.doWork; dsimp only; split
    · unfold beginDispatch dispatchNext; dsimp only; split
      · exact h.same rfl rfl rfl
      · split <;> exact h.same rfl rfl rfl
    · exact h

theorem OutputsFollow.changeStack {s : State} (h : OutputsFollow s) (g : Fin 4) (cs : List Context) :
    OutputsFollow (changeStack g cs s) := by
  have frame := changeStack_stageFrame g cs s
  exact h.same frame.outputs frame.mode frame.zones

theorem OutputsFollow.off {s : State} (h : s.outputs = Outputs.off) : OutputsFollow s := by
  refine ⟨fun on => ?_, fun _ => ?_⟩
  · rw [h] at on; cases on
  · rw [h]; exact ⟨rfl, rfl, rfl⟩

/-! ## Every step -/

/-- Every move keeps the output laws. -/
theorem OutputsFollow.move {c : Instr} {s₀ s t : State} (h : Move c s₀ s t) (before : OutputsFollow s) : OutputsFollow t := by
  cases h with
  | plain frame => unfold PlainFrame at frame; exact before.same (by rw [frame]) (by rw [frame]) (by rw [frame])
  | judgeHealthy s => exact before.judgeHealthy
  | assertReset s => exact .off rfl
  | deviceReset straps rate s => exact .off rfl
  | restart s => exact .off rfl
  | applyPoint s => exact before.applyPoint
  | takePoint node status p s => rw [takePoint_frame]; exact before.same rfl rfl rfl
  | markSettling i s => rw [markSettling_frame]; exact before.same rfl rfl rfl
  | doWork w s => exact before.doWork w
  | expireTop g s =>
    unfold Machine.expireTop; split
    · have posted : ∀ k n d, OutputsFollow (Machine.post k n d s) := fun _ _ _ => before.same rfl rfl rfl
      exact outputsFollow_judgeAlarm ((posted _ _ _).changeStack g _).mode
    · exact before
  | enterRun s => exact outputsFollow_judgeAll _
  | enterWarmup s => exact outputsFollow_judgeAll _
  | enterStandby s => exact outputsFollow_judgeAll _
  | acknowledge z s =>
    refine ⟨fun on => ?_, before.mode⟩
    rw [chargeFunction_congr (s := s) (by rfl) fun y => ?_]
    · exact before.charge on
    · show (setZone z _ s).zones[y].gas = _
      rw [zones_setZone]; split
      · rename_i is; subst is; rfl
      · rfl
  | judgeBeacon s => exact ⟨before.charge, before.mode⟩
  | push g x s => exact (before.changeStack g _).judgeVent
  | pop g x xs s => exact (before.changeStack g _).judgeVent
  | fanReset f s =>
    have frame := (changeFan_fanFrame f { s.fans[f] with state := .off, reason := .none } s)
    have recomputed := recomputeRunSet_groupFrame (fanGroup s f)
      (changeFan f { s.fans[f] with state := .off, reason := .none } s)
    exact (before.lowers (frame.lowers.trans (recomputeRunSet_lowers _ _)) (recomputed.mode.trans frame.group.mode)
      (by rw [recomputed, frame])).judgeFans
  | _ => exact before.same rfl rfl rfl

/-- Settles O51: an output follows each judgement, and between judgements neither the mode nor a zone that it reads changes. -/
theorem everyStepKeepsTheOutputLaws : Obligations.EveryStepKeepsTheOutputLaws := by
  intro s t charge mode h
  rw [← outputsFollow_iff]
  exact step_keeps (P := OutputsFollow) (fun _ _ k => k.same rfl rfl rfl) (fun _ _ _ _ => OutputsFollow.move) h
    ((outputsFollow_iff s).mpr ⟨charge, mode⟩)

end Sys2Proof.Machine
end

section
/-! PROOFS. The fan and run-set laws (6.1 to 6.4) over every step (O56). -/

namespace Sys2Proof.Machine

/-! ## One fan's record -/

/-- R104, R108: setpoint, proof timer and streak stand at 0 outside the states that use them, and a FAILED fan has a reason. -/
structure FanSettled (r : FanRecord) : Prop where
  timer : r.state ≠ .starting → r.timer = 0
  streak : r.state ≠ .running → r.streak = 0
  setpoint : r.state.active = false → r.setpoint = 0
  reason : r.state = .failed → r.reason ≠ .none

theorem FanSettled.resting {r : FanRecord} {st : FanState}
    (reason : st = .failed → r.reason ≠ .none) : FanSettled (restingFan st r) :=
  ⟨fun _ => rfl, fun _ => rfl, fun _ => rfl, reason⟩

theorem FanSettled.cleared : FanSettled FanRecord.cleared := ⟨fun _ => rfl, fun _ => rfl, fun _ => rfl, nofun⟩

theorem FanSettled.started (s : State) (f : Fin 8) : FanSettled (startedFan s f) := by
  unfold startedFan; dsimp only
  refine ⟨fun other => ?_, fun _ => rfl, fun rests => ?_, fun failed => ?_⟩
  · split
    · rfl
    · rename_i slotted; rw [if_neg slotted] at other; exact absurd rfl other
  · split at rests <;> cases rests
  · split at failed <;> cases failed

/-- Every fan's record is settled. -/
def FansSettled (s : State) : Prop := ∀ f : Fin 8, FanSettled s.fans[f]

/-- From `s` to `t` settled fans stay settled, and reasons, run sets and tables stay. -/
structure FansKept (s t : State) : Prop where
  tables : t.tables = s.tables
  runSets : ∀ g : Fin 4, t.groups[g].runSet = s.groups[g].runSet
  reasons : ∀ f : Fin 8, t.fans[f].reason = s.fans[f].reason
  settled : FansSettled s → FansSettled t

theorem FansKept.trans {s t u : State} (h : FansKept s t) (k : FansKept t u) : FansKept s u :=
  ⟨k.tables.trans h.tables, fun g => (k.runSets g).trans (h.runSets g), fun f => (k.reasons f).trans (h.reasons f),
    fun start => k.settled (h.settled start)⟩

/-- A state whose fans are the same. -/
theorem FansKept.of_same {s t : State} (tables : t.tables = s.tables) (runSets : ∀ g : Fin 4, t.groups[g].runSet = s.groups[g].runSet)
    (fans : t.fans = s.fans) : FansKept s t :=
  ⟨tables, runSets, fun f => by rw [fans], fun start f => by rw [fans]; exact start f⟩

theorem FansKept.refl (s : State) : FansKept s s := .of_same rfl (fun _ => rfl) rfl

theorem FansSettled.set {s t : State} (h : FansSettled s) {f : Fin 8} {r : FanRecord} (new : FanSettled r)
    (written : ∀ k : Fin 8, t.fans[k] = if f = k then r else s.fans[k]) : FansSettled t := fun k => by
  rw [written]; split
  · exact new
  · exact h k

/-- A fan's record replaced by a settled one with the same reason. -/
theorem changeFan_kept {f : Fin 8} {r : FanRecord} {s : State} (new : FansSettled s → FanSettled r)
    (reason : r.reason = s.fans[f].reason) : FansKept s (changeFan f r s) := by
  have frame := changeFan_fanFrame f r s
  refine ⟨by rw [frame], fun g => by rw [frame], fun k => ?_, fun start => start.set (new start) fun k => changeFan_fans f k r s⟩
  rw [changeFan_fans]; split
  · rename_i is; rw [← is]; exact reason
  · rfl

theorem setFan_kept {f : Fin 8} {r : FanRecord} {s : State} (new : FansSettled s → FanSettled r)
    (reason : r.reason = s.fans[f].reason) : FansKept s (setFan f r s) := by
  refine ⟨rfl, fun g => rfl, fun k => ?_, fun start => start.set (new start) fun k => fans_setFan f k r s⟩
  rw [fans_setFan]; split
  · rename_i is; rw [← is]; exact reason
  · rfl

theorem startFan_kept (f : Fin 8) (s : State) : FansKept s (startFan f s) := by
  rw [startFan_eq]; exact changeFan_kept (fun _ => .started s f) rfl

theorem stopFan_kept (f : Fin 8) (s : State) : FansKept s (stopFan f s) := by
  rw [stopFan_eq]; exact changeFan_kept (fun _ => .resting nofun) rfl

theorem manualFan_kept (f : Fin 8) (s : State) : FansKept s (manualFan f s) := by
  rw [manualFan_eq]; exact changeFan_kept (fun _ => .resting nofun) rfl

theorem takeBackFan_kept (g : Fin 4) (f : Fin 8) (s : State) : FansKept s (takeBackFan g f s) := by
  unfold takeBackFan; split
  · rename_i reason; exact changeFan_kept (fun _ => .resting (st := .failed) fun _ => reason) rfl
  · split
    · exact startFan_kept f s
    · exact stopFan_kept f s

theorem actOnMember_kept (g : Fin 4) (joins : Bool) (f : Fin 8) (s : State) : FansKept s (actOnMember g joins f s) := by
  unfold actOnMember; dsimp only
  split
  · split
    · exact startFan_kept f s
    · exact .refl s
  · split
    · exact stopFan_kept f s
    · exact .refl s

theorem forEachFree_kept {α : Type} {xs : List α} {act : α → State → State} (h : ∀ x s, FansKept s (act x s)) (s : State) :
    FansKept s (forEachFree xs act s) :=
  forEachFree_induction (P := FansKept s) (fun _ => .of_same rfl (fun _ => rfl) rfl) fun x _ t k => k.trans (h x t)

theorem forEachGroup_fansKept {gs : List (Fin 4)} {act : Fin 4 → State → State} (h : ∀ g s, FansKept s (act g s)) (s : State) :
    FansKept s (forEachGroup gs act s) :=
  forEachGroup_induction (P := FansKept s) (.refl s) (fun _ _ k => k.trans (.of_same rfl (fun _ => rfl) rfl))
    fun g _ t k => k.trans (h g t)

/-- A group's record replaced, its run set kept. -/
theorem setGroup_kept {g : Fin 4} {r : GroupRecord} {s : State} (runSet : r.runSet = s.groups[g].runSet) :
    FansKept s (setGroup g r s) := by
  refine .of_same rfl (fun k => ?_) rfl
  rw [groups_setGroup]; split
  · rename_i is; rw [← is]; exact runSet
  · rfl

theorem judgeHandOver_kept (g : Fin 4) (s : State) : FansKept s (judgeHandOver g s) := by
  unfold judgeHandOver; dsimp only
  split
  · exact .refl s
  · split
    · unfold takeBackGroup; exact (setGroup_kept (by rfl)).trans (forEachFree_kept (takeBackFan_kept g) _)
    · unfold handOverGroup; exact (setGroup_kept (by rfl)).trans (forEachFree_kept manualFan_kept _)

theorem restage_fansKept (g : Fin 4) (s : State) : FansKept s (restage g s) := by
  unfold restage; exact (setGroup_kept (restaged_runSet s g)).trans (judgeHandOver_kept g _)

theorem changeStack_fansKept (g : Fin 4) (cs : List Context) (s : State) : FansKept s (changeStack g cs s) := by
  unfold changeStack; exact (setGroup_kept (by rfl)).trans (judgeHandOver_kept g _)

theorem startsAndStops_kept (g : Fin 4) (s : State) : FansKept s (startsAndStops g s) := by
  unfold startsAndStops; split
  · exact forEachFree_kept stopFan_kept s
  · exact forEachFree_kept startFan_kept s

theorem writeSetpoint_kept (g : Fin 4) (s : State) (f : Fin 8) : FansKept s (writeSetpoint g s f) := by
  unfold writeSetpoint; split
  · rename_i runs
    refine setFan_kept (fun start => ?_) rfl
    exact ⟨(start f).timer, (start f).streak, fun rests => absurd runs.2 (by simpa using rests), (start f).reason⟩
  · exact .refl s

theorem ageStart_kept (g : Fin 4) (s : State) (f : Fin 8) : FansKept s (ageStart g s f) := by
  unfold ageStart; split
  · exact setFan_kept (fun start => ⟨(start f).timer, (start f).streak, (start f).setpoint, (start f).reason⟩) rfl
  · exact .refl s

theorem foldl_kept {α : Type} {act : State → α → State} (h : ∀ s x, FansKept s (act s x)) (xs : List α) (s : State) :
    FansKept s (xs.foldl act s) := by
  induction xs generalizing s with
  | nil => exact .refl s
  | cons x xs ih => exact (h s x).trans (ih _)

/-! ## Run sets -/

/-- R105: the run set of group `g` holds enabled fans of the group without a failure reason, none twice, and no more than the run
count. -/
structure RunSetFits (s : State) (g : Fin 4) : Prop where
  once : s.groups[g].runSet.Nodup
  short : s.groups[g].runSet.length ≤ s.tables.groups[g].runCount
  members : ∀ f ∈ s.groups[g].runSet, s.tables.fans[f].enabled = true ∧ s.tables.fans[f].group = g ∧ s.fans[f].reason = .none

/-- The fan and run-set laws as one. -/
structure FansFit (s : State) : Prop where
  settled : FansSettled s
  runSets : ∀ g : Fin 4, RunSetFits s g

theorem fansFit_iff (s : State) : FansFit s ↔ SetpointLaw s ∧ RunSetLaw s := by
  constructor
  · rintro ⟨settled, runSets⟩
    refine ⟨fun f => ⟨(settled f).timer, (settled f).streak, (settled f).setpoint⟩, fun f => (settled f).reason,
      fun g => ⟨(runSets g).once, (runSets g).short, fun f mem => ?_⟩⟩
    obtain ⟨enabled, group, reason⟩ := (runSets g).members f mem
    exact ⟨enabled, group, reason, fun failed => (settled f).reason failed reason⟩
  · rintro ⟨setpoints, reasons, runSets⟩
    refine ⟨fun f => ?_, fun g => ?_⟩
    · obtain ⟨timer, streak, setpoint⟩ := setpoints f
      exact ⟨timer, streak, setpoint, reasons f⟩
    · obtain ⟨once, short, members⟩ := runSets g
      refine ⟨once, short, fun f mem => ?_⟩
      obtain ⟨enabled, group, reason, -⟩ := members f mem
      exact ⟨enabled, group, reason⟩

theorem mem_eligibleFans {ts : Tables} {fans : Vector FanRecord 8} {g : Fin 4} {f : Fin 8} :
    f ∈ eligibleFans ts fans g ↔ ts.fans[f].enabled = true ∧ ts.fans[f].group = g ∧ fans[f].reason = .none := by
  unfold eligibleFans
  simp only [List.mem_flatMap, List.mem_filter, mem_enabledFans, Bool.and_eq_true, beq_iff_eq]
  constructor
  · rintro ⟨o, -, ⟨enabled, group⟩, -, reason⟩; exact ⟨enabled, group, reason⟩
  · rintro ⟨enabled, group, reason⟩; exact ⟨_, List.mem_finRange _, ⟨enabled, group⟩, rfl, reason⟩

/-- The fans of one order field stand before those of the next, so that none stands twice (R105). -/
theorem eligibleFans_nodup (ts : Tables) (fans : Vector FanRecord 8) (g : Fin 4) : (eligibleFans ts fans g).Nodup := by
  unfold eligibleFans
  rw [List.nodup_flatMap]
  refine ⟨fun o _ => ((List.nodup_finRange 8).filter _).filter _, (List.nodup_finRange 4).imp fun {a b} differ f here there => ?_⟩
  have same : ∀ {o}, f ∈ ((enabledFans ts g).filter fun f => ts.fans[f].order == o && fans[f].reason == .none) →
      ts.fans[f].order = o := fun mem => by
    have := (List.mem_filter.mp mem).2
    rw [Bool.and_eq_true, beq_iff_eq] at this; exact this.1
  exact differ ((same here).symm.trans (same there))

/-- R105: a selected run set fits. -/
theorem RunSetFits.of_selected {s : State} {g : Fin 4} {ts : Tables} {fans : Vector FanRecord 8} (tables : s.tables = ts)
    (reasons : ∀ f : Fin 8, s.fans[f].reason = fans[f].reason)
    (selected : s.groups[g].runSet = selectRunSet ts fans g) : RunSetFits s g := by
  have part : s.groups[g].runSet.Sublist (eligibleFans ts fans g) := by rw [selected]; exact List.take_sublist _ _
  refine ⟨part.nodup (eligibleFans_nodup ts fans g), ?_, fun f mem => ?_⟩
  · rw [selected, tables]; exact List.length_take_le _ _
  · rw [tables, reasons]; exact mem_eligibleFans.mp (part.mem mem)

/-- A run set is read off the tables, the group's record, and the reasons of the group's fans. -/
theorem RunSetFits.congr {s t : State} {g : Fin 4} (h : RunSetFits s g) (tables : t.tables = s.tables)
    (runSet : t.groups[g].runSet = s.groups[g].runSet)
    (reasons : ∀ f : Fin 8, s.tables.fans[f].group = g → s.fans[f].reason = .none → t.fans[f].reason = .none) : RunSetFits t g := by
  refine ⟨by rw [runSet]; exact h.once, by rw [runSet, tables]; exact h.short, fun f mem => ?_⟩
  rw [runSet] at mem
  obtain ⟨enabled, group, reason⟩ := h.members f mem
  rw [tables]; exact ⟨enabled, group, reasons f group reason⟩

theorem FansFit.kept {s t : State} (h : FansFit s) (k : FansKept s t) : FansFit t :=
  ⟨k.settled h.settled, fun g => (h.runSets g).congr k.tables (k.runSets g) fun f _ reason => (k.reasons f).trans reason⟩

/-- A state that differs in what the fan laws do not read. -/
theorem FansFit.same {s t : State} (h : FansFit s) (tables : t.tables = s.tables) (groups : t.groups = s.groups)
    (fans : t.fans = s.fans) : FansFit t := h.kept (.of_same tables (fun g => by rw [groups]) fans)

theorem recomputeRunSet_runSet (g k : Fin 4) (s : State) :
    (recomputeRunSet g s).groups[k].runSet = if g = k then selectRunSet s.tables s.fans g else s.groups[k].runSet := by
  rw [recomputeRunSet_groups]
  by_cases same : g = k
  · subst same; simp
  · have ne : g.val ≠ k.val := fun is => same (Fin.ext is)
    rw [if_neg same]; simp only [Fin.getElem_fin, Vector.getElem_set_ne _ _ ne]

theorem recomputeRunSet_reasons (g : Fin 4) (s : State) :
    (∀ f : Fin 8, (recomputeRunSet g s).fans[f].reason = s.fans[f].reason) ∧
      (FansSettled s → FansSettled (recomputeRunSet g s)) := by
  have acted : (∀ f : Fin 8, (actOnMembers g s).fans[f].reason = s.fans[f].reason) ∧
      (FansSettled s → FansSettled (actOnMembers g s)) := by
    unfold actOnMembers
    have kept := forEachFree_kept (xs := (List.finRange 8).filter fun f =>
        s.groups[g].runSet.contains f != (selectRunSet s.tables s.fans g).contains f)
      (fun f => actOnMember_kept g ((selectRunSet s.tables s.fans g).contains f) f)
      (setGroup g { s.groups[g] with runSet := selectRunSet s.tables s.fans g } s)
    exact ⟨kept.reasons, fun start => kept.settled start⟩
  have same := changeCondition_fans g (actOnMembers g s)
  rw [recomputeRunSet_eq]
  exact ⟨fun f => by rw [same]; exact acted.1 f, fun start f => by rw [same]; exact acted.2 start f⟩

/-- R105: recomputing a group's run set makes it fit, and leaves the others. -/
theorem recomputeRunSet_fits (g : Fin 4) (s : State) :
    RunSetFits (recomputeRunSet g s) g ∧ ∀ k, k ≠ g → RunSetFits s k → RunSetFits (recomputeRunSet g s) k := by
  have tables := (recomputeRunSet_groupFrame g s).tables
  obtain ⟨reasons, -⟩ := recomputeRunSet_reasons g s
  refine ⟨.of_selected tables reasons ?_, fun k other fits => fits.congr tables ?_ fun f _ reason => (reasons f).trans reason⟩
  · rw [recomputeRunSet_runSet, if_pos rfl]
  · rw [recomputeRunSet_runSet, if_neg (Ne.symm other)]

theorem FansFit.recomputeRunSet {s : State} (settled : FansSettled s) {g : Fin 4} (others : ∀ k, k ≠ g → RunSetFits s k) :
    FansFit (recomputeRunSet g s) := by
  obtain ⟨own, rest⟩ := recomputeRunSet_fits g s
  refine ⟨(recomputeRunSet_reasons g s).2 settled, fun k => ?_⟩
  by_cases same : k = g
  · rw [same]; exact own
  · exact rest k same (others k same)

/-- Every group's run set recomputed: whatever the run sets were, they fit. -/
theorem FansFit.of_recomputed {s : State} (settled : FansSettled s) :
    FansFit (forEachGroup (List.finRange 4) Machine.recomputeRunSet s) := by
  obtain ⟨done, mem, fits, all⟩ := forEachGroup_once (P := fun done t => (∀ g ∈ done, RunSetFits t g) ∧ FansSettled t)
    (f := Machine.recomputeRunSet) (List.nodup_finRange 4) ⟨nofun, settled⟩
    (fun done t n h => ⟨fun g mem => (h.1 g mem).congr rfl rfl fun _ _ k => k, h.2⟩)
    fun g _ done t fresh h => ⟨fun k mem => by
      obtain ⟨own, rest⟩ := recomputeRunSet_fits g t
      rcases List.mem_cons.mp mem with is | mem
      · rw [is]; exact own
      · exact rest k (fun is => fresh (is ▸ mem)) (h.1 k mem), (recomputeRunSet_reasons g t).2 h.2⟩
  exact ⟨all, fun g => fits g ((mem g).mpr (List.mem_finRange g))⟩

/-! ## Supervision -/

/-- R110, R111: a judgement leaves a settled fan settled. -/
theorem judgeFan_settled (f : Fin 8) {s : State} (settled : FansSettled s) : FansSettled (judgeFan f s) := by
  have record := settled f
  have changed : ∀ {r}, FanSettled r → FansSettled (changeFan f r s) := fun new =>
    settled.set new fun k => changeFan_fans f k _ s
  have written : ∀ {r}, FanSettled r → FansSettled (setFan f r s) := fun new =>
    settled.set new fun k => fans_setFan f k _ s
  unfold judgeFan; dsimp only
  split
  · exact settled
  · split
    · exact changed ⟨fun _ => rfl, fun _ => rfl, nofun, nofun⟩
    · exact written ⟨record.timer, fun _ => rfl, record.setpoint, record.reason⟩
  · rename_i judged
    have active : s.fans[f].state.active = true := by
      unfold judgedFlow at judged
      split at judged
      · rename_i h; exact (Bool.and_eq_true_iff.mp h).1
      · cases judged
    split
    · exact changed (.resting (r := { s.fans[f] with reason := .noProof }) fun _ => nofun)
    · split
      · rename_i starting
        exact written ⟨fun other => absurd starting other, record.streak, record.setpoint, record.reason⟩
      · rename_i other
        have running : s.fans[f].state = .running := ((FanState.active_iff _).mp active).resolve_left other
        split
        · exact changed (.resting (r := { s.fans[f] with reason := .lostFlow }) fun _ => nofun)
        · exact written ⟨record.timer, fun stopped => absurd running stopped, record.setpoint, record.reason⟩

theorem judgeFan_other {f k : Fin 8} (other : f ≠ k) (s : State) : (judgeFan f s).fans[k] = s.fans[k] := by
  unfold judgeFan failFan; dsimp only
  repeat' split
  all_goals first | rfl | (rw [changeFan_fans, if_neg other]) | (rw [fans_setFan, if_neg other])

/-- R109 (b): the judgements of a group touch its fans only. -/
theorem judgeGroup_fans (g : Fin 4) {s : State} (settled : FansSettled s) :
    FansSettled (judgeGroup g s) ∧ ∀ f : Fin 8, s.tables.fans[f].group ≠ g → (judgeGroup g s).fans[f] = s.fans[f] := by
  refine forEachFree_induction (P := fun t => FansSettled t ∧ ∀ f : Fin 8, s.tables.fans[f].group ≠ g → t.fans[f] = s.fans[f])
    (fun _ => ⟨settled, fun _ _ => rfl⟩) fun f mem t ⟨settled, same⟩ => ⟨judgeFan_settled f settled, fun k away => ?_⟩
  have own : s.tables.fans[f].group = g := mem_fansOf.mp (List.mem_of_mem_filter mem)
  have other : f ≠ k := fun is => away (is ▸ own)
  show (judgeFan f t).fans[k] = _
  rw [judgeFan_other other]; exact same k away

/-- R105, R109 (c): a run-set fan that failed is failed over in the same step. -/
theorem FansFit.superviseGroup {s : State} (h : FansFit s) (g : Fin 4) : FansFit (superviseGroup g s) := by
  obtain ⟨settled, away⟩ := judgeGroup_fans g h.settled
  have frame := judgeGroup_turnFrame g s
  have others : ∀ k, k ≠ g → RunSetFits (judgeGroup g s) k := fun k other =>
    (h.runSets k).congr frame.tables (by rw [frame.groups]) fun f own reason => by
      rw [away f fun is => other (own.symm.trans is)]; exact reason
  unfold Machine.superviseGroup failOver; split
  · exact .recomputeRunSet settled others
  · rename_i none
    refine ⟨settled, fun k => ?_⟩
    by_cases same : k = g
    · subst same
      obtain ⟨once, short, members⟩ := h.runSets k
      refine ⟨by rw [frame.groups]; exact once, by rw [frame.groups, frame.tables]; exact short, fun f mem => ?_⟩
      rw [frame.tables]
      have held : f ∈ s.groups[k].runSet := by rw [frame.groups] at mem; exact mem
      obtain ⟨enabled, group, -⟩ := members f held
      refine ⟨enabled, group, ?_⟩
      by_contra failed
      exact none (List.any_eq_true.mpr ⟨f, mem, by simpa using failed⟩)
    · exact others k same

/-! ## Applied records -/

theorem FansSettled.recomputeRunSet {s : State} (h : FansSettled s) (g : Fin 4) : FansSettled (recomputeRunSet g s) :=
  (recomputeRunSet_reasons g s).2 h

theorem FansSettled.applyChange {s : State} (h : FansSettled s) (c : Change) : FansSettled (applyChange c s) := by
  cases c with
  | binding i e =>
    show FansSettled (applyBinding i e s)
    unfold applyBinding takeNotice; dsimp only
    split <;> exact h
  | zone z e =>
    show FansSettled (applyZone z e s)
    unfold applyZone; dsimp only
    split
    · exact h
    · split
      · exact h
      · refine (forEachGroup_fansKept restage_fansKept _).settled ?_
        rw [replaceZone_eq]; exact h
  | group g e =>
    show FansSettled (applyGroup g e s)
    unfold applyGroup; dsimp only
    split
    · exact h
    · split
      · exact h
      · have start : ∀ (ts : Tables) r, FansSettled (setGroup g r { s with tables := ts }) := fun _ _ => h
        exact ((restage_fansKept g _).settled (start _ _)).recomputeRunSet g
  | fan f e =>
    show FansSettled (applyFan f e s)
    have cleared : ∀ ts : Tables, FansSettled (changeFan f FanRecord.cleared { s with tables := ts }) := fun ts =>
      FansSettled.set (s := { s with tables := ts }) h .cleared fun k => changeFan_fans f k _ _
    have joined : ∀ t, FansSettled t → FansSettled (joinHandOver f e t) := fun t settled => by
      unfold joinHandOver; split
      · exact (manualFan_kept f t).settled settled
      · exact settled
    unfold applyFan; dsimp only
    split
    · exact h
    · split
      · exact (joined _ (cleared _)).recomputeRunSet _
      · exact ((joined _ (cleared _)).recomputeRunSet _).recomputeRunSet _
  | device e => exact h

/-- With no record applied, the records of a list post, and do nothing else. -/
theorem applyRecords_rejected {cs : List Change} {s : State} (none : (applyRecords cs s).2.1 = 0) :
    (applyRecords cs s).1 = { s with events := (applyRecords cs s).1.events, lost := (applyRecords cs s).1.lost } := by
  induction cs generalizing s with
  | nil => rfl
  | cons c cs ih =>
    unfold applyRecords at none ⊢; split at none
    · exact absurd none (Nat.succ_ne_zero _)
    · exact (ih none).trans rfl

/-- An apply point that applies a record recomputes every run set, and one that applies none changes no fan and no table. -/
theorem FansFit.applyPoint {s : State} (h : FansFit s) : FansFit (applyPoint s) := by
  rcases applyPoint_cases s with eq | ⟨-, -, -, eq⟩
  · rw [eq]; exact h
  · have closed : FansFit (closeTables (applyRecords s.changes s).2.1 (applyRecords s.changes s).1) := by
      unfold closeTables; dsimp only; split
      · rename_i none
        rw [applyRecords_rejected none]; exact h.same rfl rfl rfl
      · have settled : FansSettled (applyRecords s.changes s).1 :=
          applyRecords_induction (P := FansSettled) (fun c _ _ before => FansSettled.applyChange before c) (fun _ _ _ _ before => before) _ s h.settled
        exact (FansFit.of_recomputed settled).same rfl rfl rfl
    rw [eq]; exact closed.same rfl rfl rfl

/-! ## The work of a completion -/

theorem writeZone_fansKept (z : Fin 16) (new : ZoneRecord) (s : State) : FansKept s (writeZone z new s) := by
  have replaced : FansKept s (replaceZone z new s) := by
    rw [replaceZone_eq]; exact .of_same rfl (fun _ => rfl) rfl
  have judged : ∀ t, FansKept t (judgeAlarm t) := fun t => .of_same rfl (fun _ => rfl) rfl
  unfold writeZone; dsimp only
  refine FansKept.trans ?_ (judged _)
  split
  · exact replaced
  · exact replaced.trans (forEachGroup_fansKept restage_fansKept _)

theorem FansFit.doWork {s : State} (h : FansFit s) (w : Work) : FansFit (doWork w s) := by
  cases w with
  | age =>
    show FansFit (ageChannels s)
    rw [ageChannels_frame]; exact h.same rfl rfl rfl
  | evaluate z =>
    show FansFit (evaluateZone z s)
    unfold evaluateZone evaluateSpill evaluateContacts evaluateRising evaluateGas
    exact (((h.kept (writeZone_fansKept z _ _)).kept (writeZone_fansKept z _ _)).kept (writeZone_fansKept z _ _)).kept
      (writeZone_fansKept z _ _)
  | endPass => exact h.same rfl rfl rfl
  | stepBegins g => exact h.kept (foldl_kept (ageStart_kept g) _ s)
  | countExpiry g =>
    have frame : FansKept s (countExpiry g s) := by
      unfold countExpiry; dsimp only; split
      · split
        · exact setGroup_kept (by rfl)
        · exact .refl s
      · exact .refl s
    exact h.kept frame
  | stageUpdate g =>
    have record := stepStage_record s.tables.groups[g].runOn s.groups[g]
    exact h.kept (setGroup_kept (by rw [record]))
  | startsStops g => exact (h.kept (startsAndStops_kept g s)).same rfl rfl rfl
  | supervise g => exact h.superviseGroup g
  | setpoints g =>
    have written := h.kept (foldl_kept (writeSetpoint_kept g) (List.finRange 8) s)
    have judged : ∀ t, FansFit t → FansFit (judgeFans t) := fun t fits => fits.same rfl rfl rfl
    exact judged _ written
  | countHold => unfold Machine.doWork; dsimp only; split <;> exact h.same rfl rfl rfl
  | countWarmup => unfold Machine.doWork; dsimp only; split <;> exact h.same rfl rfl rfl
  | countFaulted => unfold Machine.doWork; dsimp only; split <;> exact h.same rfl rfl rfl
  | close =>
    unfold Machine.doWork; dsimp only; split
    · unfold beginDispatch dispatchNext; dsimp only; split
      · exact h.same rfl rfl rfl
      · split <;> exact h.same rfl rfl rfl
    · exact h

/-! ## Modes and resets -/

theorem FansFit.regroup {s : State} (settled : FansSettled s) : FansFit (regroup s) :=
  .of_recomputed ((forEachGroup_fansKept restage_fansKept s).settled settled)

theorem FansFit.judgeAll {s : State} (h : FansFit s) : FansFit (judgeAll s) := h.same rfl rfl rfl

theorem FansFit.enterWarmup {s : State} (h : FansFit s) : FansFit (enterWarmup s) := by
  have regrouped : FansFit (Machine.regroup (warmupZones (changeMode .warmup
      { Machine.applyPoint s with warmupLeft := (Machine.applyPoint s).tables.device.warmupCount }))) := .regroup h.applyPoint.settled
  have timed : ∀ t u : State, SegmentFrame t u → FansFit t → FansFit { u with timerOn := true } := fun t u frame fits => by
    unfold SegmentFrame at frame
    exact fits.same (by rw [frame]) (by rw [frame]) (by rw [frame])
  exact (timed _ _ (warmupSegment_frame _) regrouped).judgeAll

theorem FanSettled.standby (r : FanRecord) : FanSettled (standbyFan r) := by
  unfold standbyFan
  refine ⟨fun _ => rfl, fun _ => rfl, fun _ => rfl, fun failed => ?_⟩
  dsimp only at failed ⊢
  split at failed
  · cases failed
  · assumption

theorem FansFit.enterStandby (s : State) : FansFit (enterStandby s) := by
  unfold Machine.enterStandby; dsimp only
  refine FansFit.judgeAll (.of_recomputed fun f => ?_)
  simp only [Fin.getElem_fin, Vector.getElem_ofFn]
  exact .standby _

theorem FansFit.restartRuntime (s : State) : FansFit (restartRuntime s) := by
  have fans : (Machine.restartRuntime s).fans = Vector.replicate 8 FanRecord.cleared := rfl
  refine ⟨fun f => ?_, fun g => .of_selected (fans := Vector.replicate 8 FanRecord.cleared) rfl (fun f => by rw [fans]) ?_⟩
  · rw [fans, Fin.getElem_fin, Vector.getElem_replicate]; exact .cleared
  · have groups : (Machine.restartRuntime s).groups =
        computedRunSets s.tables (Vector.replicate 8 FanRecord.cleared) (Vector.replicate 4 GroupRecord.cleared) := rfl
    rw [groups]; unfold computedRunSets; simp only [Fin.getElem_fin, Vector.getElem_ofFn]; rfl

/-! ## Every step -/

/-- R113: a FAILED fan reset is settled, and its group's run set is recomputed. -/
theorem FansFit.fanReset {s : State} (h : FansFit s) {f : Fin 8} (failed : s.fans[f].state = .failed) :
    FansFit (Machine.recomputeRunSet (fanGroup s f) (changeFan f { s.fans[f] with state := .off, reason := .none } s)) := by
  have frame := changeFan_fanFrame f { s.fans[f] with state := .off, reason := .none } s
  have record := h.settled f
  have rests : s.fans[f].state.active = false := by rw [failed]; rfl
  refine .recomputeRunSet (h.settled.set ?_ fun k => changeFan_fans f k _ s) fun k _ =>
    (h.runSets k).congr (by rw [frame]) (by rw [frame]) fun x _ reason => ?_
  · exact ⟨fun _ => record.timer (by rw [failed]; nofun), fun _ => record.streak (by rw [failed]; nofun),
      fun _ => record.setpoint rests, nofun⟩
  · rw [changeFan_fans]; split
    · rfl
    · exact reason

/-- Every move keeps the fan laws. -/
theorem FansFit.move {c : Instr} {s₀ s t : State} (h : Move c s₀ s t) (before : FansFit s) : FansFit t := by
  cases h with
  | plain frame => unfold PlainFrame at frame; exact before.same (by rw [frame]) (by rw [frame]) (by rw [frame])
  | deviceReset straps rate s => exact .restartRuntime _
  | restart s => exact .restartRuntime s
  | applyPoint s => exact before.applyPoint
  | takePoint node status p s => rw [takePoint_frame]; exact before.same rfl rfl rfl
  | markSettling i s => rw [markSettling_frame]; exact before.same rfl rfl rfl
  | doWork w s => exact before.doWork w
  | expireTop g s =>
    unfold Machine.expireTop; split
    · have posted : ∀ k n d, FansFit (Machine.post k n d s) := fun _ _ _ => before.same rfl rfl rfl
      have judged : ∀ t, FansFit t → FansFit (judgeAlarm t) := fun t fits => fits.same rfl rfl rfl
      exact judged _ ((posted _ _ _).kept (changeStack_fansKept g _ _))
    · exact before
  | enterRun s => exact (FansFit.regroup (s := changeMode .run { s with warmupLeft := 0 }) before.settled).judgeAll
  | enterWarmup s => exact before.enterWarmup
  | enterStandby s => exact .enterStandby s
  | push g x s => exact (before.kept (changeStack_fansKept g _ s)).same (judgeVent_tables _) (judgeVent_groups _) (judgeVent_fans _)
  | pop g x xs s => exact (before.kept (changeStack_fansKept g _ s)).same (judgeVent_tables _) (judgeVent_groups _) (judgeVent_fans _)
  | fanReset f s failed => exact (before.fanReset failed).same (judgeFans_tables _) (judgeFans_groups _) (judgeFans_fans _)
  | _ => exact before.same rfl rfl rfl

/-- Settles O56: every move keeps the fan laws, in STANDBY as in the other modes. -/
theorem everyStepKeepsTheFanLaws : Obligations.EveryStepKeepsTheFanLaws := by
  intro s t _ setpoints runSets h
  rw [← fansFit_iff]
  exact step_keeps (P := FansFit) (fun _ _ k => k.same rfl rfl rfl) (fun _ _ _ _ => FansFit.move) h
    ((fansFit_iff s).mpr ⟨setpoints, runSets⟩)

end Sys2Proof.Machine
end

section
/-! PROOFS. The latch of a gas alarm (R49) over every step (O59). -/

namespace Sys2Proof.Machine

/-! ## One evaluation -/

/-- R49: the zone stands in ALARM with its latch on and unacknowledged. -/
structure LatchedAlarm (e : ZoneEntry) (r : ZoneRecord) : Prop where
  latch : e.latch = true
  gas : r.gas = .alarm
  unacknowledged : r.alarmAck = false

theorem LatchedAlarm.holds {e : ZoneEntry} {r : ZoneRecord} (h : LatchedAlarm e r) : latched e r = true := by
  simp [latched, h.gas, h.latch, h.unacknowledged]

theorem gasWithSense_latched {e : ZoneEntry} {r : ZoneRecord} (h : LatchedAlarm e r) (vs : List Nat) :
    gasWithSense e r vs = .alarm := by
  have top : ∀ g : Gas, ¬ Gas.alarm.rank < g.rank := by intro g; cases g <;> decide
  unfold gasWithSense; dsimp only
  rw [h.holds, h.gas, if_neg (by simp), if_neg (top _)]
  split
  · rename_i same; exact same
  · rfl

theorem gasWithoutSense_latched {e : ZoneEntry} {r : ZoneRecord} (h : LatchedAlarm e r) (mode : Mode) (q : GasInputs) :
    (gasWithoutSense mode e r q).gas = .alarm := by
  have held := h.holds
  unfold gasWithoutSense
  rw [held]
  by_cases none : q.bound = 0
  · rw [if_pos ⟨none, rfl⟩]
  · rw [if_neg fun k => none k.1, if_neg none]
    split
    · exact h.gas
    · split
      · exact h.gas
      · rw [if_pos rfl]

/-- R49, R50: no evaluation leaves a latched alarm. -/
theorem LatchedAlarm.decideGas {e : ZoneEntry} {r : ZoneRecord} (h : LatchedAlarm e r) (mode : Mode) (q : GasInputs) :
    LatchedAlarm e (decideGas mode e r q) := by
  unfold Machine.decideGas enterGas; dsimp only
  split
  · exact ⟨h.latch, gasWithoutSense_latched h mode q, by simp [h.unacknowledged]⟩
  · exact ⟨h.latch, gasWithSense_latched h _, by simp [h.unacknowledged]⟩

/-! ## The work of a completion -/

theorem zones_writeZone (z y : Fin 16) (new : ZoneRecord) (s : State) :
    (writeZone z new s).zones[y] = if z = y then new else s.zones[y] := by
  unfold writeZone; dsimp only
  rw [judgeAlarm_zones]
  split
  · exact zones_replaceZone z y new s
  · rw [forEachGroup_groupFrame restage_groupFrame _]; exact zones_replaceZone z y new s

theorem writeZone_tables (z : Fin 16) (new : ZoneRecord) (s : State) : (writeZone z new s).tables = s.tables :=
  (writeZone_zoneFrame z new s).tables

/-- A zone's record written keeps another zone's, and its own when the new one is latched too. -/
theorem LatchedAlarm.writeZone {s : State} {y : Fin 16} (h : LatchedAlarm s.tables.zones[y] s.zones[y]) (z : Fin 16)
    (new : ZoneRecord) (own : z = y → LatchedAlarm s.tables.zones[y] new) :
    LatchedAlarm (writeZone z new s).tables.zones[y] (writeZone z new s).zones[y] := by
  rw [writeZone_tables, zones_writeZone]; split
  · exact own ‹_›
  · exact h

theorem LatchedAlarm.evaluateZone {s : State} {y : Fin 16} (h : LatchedAlarm s.tables.zones[y] s.zones[y]) (z : Fin 16) :
    LatchedAlarm (evaluateZone z s).tables.zones[y] (evaluateZone z s).zones[y] := by
  have gas := h.writeZone z (Machine.decideGas s.mode s.tables.zones[z] s.zones[z] (gasInputs s z)) fun is => by
    subst is; exact h.decideGas _ _
  have keep : ∀ {t : State} (new : ZoneRecord), LatchedAlarm t.tables.zones[y] t.zones[y] →
      (new.gas = t.zones[z].gas ∧ new.alarmAck = t.zones[z].alarmAck) →
      LatchedAlarm (Machine.writeZone z new t).tables.zones[y] (Machine.writeZone z new t).zones[y] :=
    fun new before same => before.writeZone z new fun is => by
      subst is; exact ⟨before.latch, same.1.trans before.gas, same.2.trans before.unacknowledged⟩
  have spill : ∀ q r, (decideSpill q r).gas = r.gas ∧ (decideSpill q r).alarmAck = r.alarmAck := fun q r => by
    unfold decideSpill; dsimp only
    repeat' split
    all_goals exact ⟨rfl, rfl⟩
  unfold Machine.evaluateZone evaluateSpill evaluateContacts evaluateRising evaluateGas
  exact keep _ (keep _ (keep _ gas ⟨rfl, rfl⟩) ⟨rfl, rfl⟩) (spill _ _)

/-- The zone is enabled, in WARMUP or RUN, and stands in a latched alarm. -/
structure AlarmHeld (z : Fin 16) (s : State) : Prop where
  mode : s.mode ≠ .standby
  enabled : s.tables.zones[z].enabled = true
  latched : LatchedAlarm s.tables.zones[z] s.zones[z]

theorem AlarmHeld.congr {z : Fin 16} {s t : State} (h : AlarmHeld z s) (mode : t.mode = s.mode) (tables : t.tables = s.tables)
    (zones : t.zones = s.zones) : AlarmHeld z t :=
  ⟨mode ▸ h.mode, tables ▸ h.enabled, by rw [tables, zones]; exact h.latched⟩

theorem AlarmHeld.group {z : Fin 16} {s t : State} (h : AlarmHeld z s) (frame : GroupFrame s t) : AlarmHeld z t :=
  h.congr frame.mode frame.tables (by rw [frame])

theorem AlarmHeld.judgeAll {z : Fin 16} {s : State} (h : AlarmHeld z s) : AlarmHeld z (judgeAll s) :=
  h.group (judgeAll_groupFrame s)
theorem AlarmHeld.judgeAlarm {z : Fin 16} {s : State} (h : AlarmHeld z s) : AlarmHeld z (judgeAlarm s) :=
  h.group (judgeAlarm_groupFrame s)
theorem AlarmHeld.judgeFans {z : Fin 16} {s : State} (h : AlarmHeld z s) : AlarmHeld z (judgeFans s) :=
  h.group (judgeFans_groupFrame s)

theorem AlarmHeld.evaluateZone {z : Fin 16} {s : State} (h : AlarmHeld z s) (y : Fin 16) : AlarmHeld z (evaluateZone y s) := by
  have frame := evaluateZone_zoneFrame y s
  refine ⟨?_, ?_, h.latched.evaluateZone y⟩
  · rw [frame.mode]; exact h.mode
  · rw [frame.tables]; exact h.enabled

theorem AlarmHeld.doWork {z : Fin 16} {s : State} (h : AlarmHeld z s) (w : Work) : AlarmHeld z (doWork w s) := by
  cases w with
  | age =>
    show AlarmHeld z (ageChannels s)
    rw [ageChannels_frame]; exact h.congr rfl rfl rfl
  | evaluate y => exact h.evaluateZone y
  | endPass => exact h.judgeAll
  | stepBegins g => exact h.group (beginGroupStep_fanFrame g s).group
  | countExpiry g => exact h.group (countExpiry_groupFrame g s)
  | stageUpdate g => exact h.congr rfl rfl rfl
  | startsStops g => exact (h.group (startsAndStops_fanFrame g s).group).judgeAlarm
  | supervise g => exact h.group (superviseGroup_groupFrame g s)
  | setpoints g => exact (h.group (writeSetpoints_fanFrame g s).group).judgeFans
  | countHold => unfold Machine.doWork; dsimp only; split <;> exact h.congr rfl rfl rfl
  | countWarmup => unfold Machine.doWork; dsimp only; split <;> exact h.congr rfl rfl rfl
  | countFaulted => unfold Machine.doWork; dsimp only; split <;> exact h.congr rfl rfl rfl
  | close =>
    unfold Machine.doWork; dsimp only; split
    · unfold beginDispatch dispatchNext; dsimp only; split
      · exact h.congr rfl rfl rfl
      · split <;> exact h.congr rfl rfl rfl
    · exact h

/-! ## Applied records -/

/-- A change record that would end a latched alarm of zone `z`: it disables the zone or turns its latch off. -/
def Unlatches (z : Fin 16) (c : Change) : Prop := ∃ e, c = .zone z e ∧ (e.enabled = false ∨ e.latch = false)

/-- R62, R63: an applied ZONES record of another zone, or one that leaves the zone enabled with its latch on. -/
theorem AlarmHeld.applyZone {z : Fin 16} {s : State} (h : AlarmHeld z s) (y : Fin 16) {e : ZoneEntry}
    (harmless : ¬ Unlatches z (.zone y e)) : AlarmHeld z (applyZone y e s) := by
  have kept : y = z → e.enabled = true ∧ e.latch = true := fun is => by
    subst is
    constructor
    · by_contra off; exact harmless ⟨e, rfl, .inl (by simpa using off)⟩
    · by_contra off; exact harmless ⟨e, rfl, .inr (by simpa using off)⟩
  have entry : ∀ {ts : Tables}, ts.zones = s.tables.zones.set y (storedZone e) → ts.zones[z].enabled = true ∧
      ts.zones[z].latch = true := fun written => by
    rw [written]
    by_cases is : y = z
    · subst is
      simp only [Fin.getElem_fin, Vector.getElem_set_self]; exact kept rfl
    · have ne : y.val ≠ z.val := fun k => is (Fin.ext k)
      simp only [Fin.getElem_fin, Vector.getElem_set_ne _ _ ne]; exact ⟨h.enabled, h.latched.latch⟩
  unfold Machine.applyZone; dsimp only
  split
  · exact h
  · split
    · obtain ⟨enabled, latch⟩ := entry (ts := { s.tables with zones := s.tables.zones.set y (storedZone e) }) rfl
      exact ⟨h.mode, enabled, ⟨latch, h.latched.gas, h.latched.unacknowledged⟩⟩
    · have frame := forEachGroup_groupFrame (gs := servedGroups (s.tables.zones[y].groupMask ||| (storedZone e).groupMask))
        restage_groupFrame (replaceZone y (rezoned s.tables.zones[y] (storedZone e) s.zones[y])
          { s with tables := { s.tables with zones := s.tables.zones.set y (storedZone e) } })
      have replaced := replaceZone_zoneFrame y (rezoned s.tables.zones[y] (storedZone e) s.zones[y])
        { s with tables := { s.tables with zones := s.tables.zones.set y (storedZone e) } }
      refine AlarmHeld.group ?_ frame
      obtain ⟨enabled, latch⟩ := entry (ts := { s.tables with zones := s.tables.zones.set y (storedZone e) }) rfl
      refine ⟨by rw [replaced.mode]; exact h.mode, by rw [replaced.tables]; exact enabled, ?_⟩
      rw [replaced.tables, zones_replaceZone]
      split
      · rename_i is
        subst is
        obtain ⟨on, -⟩ := kept rfl
        have stays : rezoned s.tables.zones[y] (storedZone e) s.zones[y] = { s.zones[y] with ring := [], rising := false } := by
          unfold rezoned
          have new : (storedZone e).enabled = true := on
          rw [h.enabled, new]
        rw [stays]
        exact ⟨latch, h.latched.gas, h.latched.unacknowledged⟩
      · exact ⟨latch, h.latched.gas, h.latched.unacknowledged⟩

/-- The zones and their entries stay. -/
def ZonesKept (s t : State) : Prop := t.zones = s.zones ∧ t.tables.zones = s.tables.zones

theorem ZonesKept.group {s t u : State} (h : ZonesKept s t) (frame : GroupFrame t u) : ZonesKept s u := by
  obtain ⟨zones, entries⟩ := h
  have recorded : u.zones = t.zones := by rw [frame]
  exact ⟨recorded.trans zones, by rw [frame.tables, entries]⟩

theorem applyGroup_zones (g : Fin 4) (e : GroupEntry) (s : State) : ZonesKept s (applyGroup g e s) := by
  unfold applyGroup; dsimp only
  split
  · exact ⟨rfl, rfl⟩
  · split
    · exact ⟨rfl, rfl⟩
    · refine ZonesKept.group (ZonesKept.group ?_ (restage_groupFrame g _)) (recomputeRunSet_groupFrame g _)
      exact ⟨by rfl, by rfl⟩

theorem applyFan_zones (f : Fin 8) (e : FanEntry) (s : State) : ZonesKept s (applyFan f e s) := by
  have first : ∀ t g, ZonesKept s t → ZonesKept s (recomputeRunSet g (joinHandOver f e (changeFan f FanRecord.cleared t))) :=
    fun t g kept => ((kept.group (changeFan_fanFrame f _ _).group).group (joinHandOver_fanFrame f e _).group).group
      (recomputeRunSet_groupFrame g _)
  have entered : ZonesKept s { s with tables := { s.tables with fans := s.tables.fans.set f e } } := ⟨rfl, rfl⟩
  unfold applyFan; dsimp only
  split
  · exact ⟨rfl, rfl⟩
  · split
    · exact first _ _ entered
    · exact (first _ _ entered).group (recomputeRunSet_groupFrame _ _)

theorem applyChange_zones (c : Change) (s : State) (other : c.table ≠ .zones) : ZonesKept s (applyChange c s) := by
  cases c with
  | binding i e =>
    show ZonesKept s (applyBinding i e s)
    unfold applyBinding takeNotice; dsimp only; split <;> exact ⟨rfl, rfl⟩
  | zone z e => exact absurd rfl other
  | group g e => exact applyGroup_zones g e s
  | fan f e => exact applyFan_zones f e s
  | device e => exact ⟨rfl, rfl⟩

theorem AlarmHeld.applyChange {z : Fin 16} {s : State} (h : AlarmHeld z s) {c : Change} (harmless : ¬ Unlatches z c) :
    AlarmHeld z (applyChange c s) := by
  by_cases zone : c.table = .zones
  · cases c with
    | zone y e => exact h.applyZone y harmless
    | _ => cases zone
  · obtain ⟨zones, entries⟩ := applyChange_zones c s zone
    exact ⟨by rw [(applyChange_applyFrame c s).mode]; exact h.mode, by rw [entries]; exact h.enabled,
      by rw [zones, entries]; exact h.latched⟩

theorem AlarmHeld.applyRecords {z : Fin 16} {s : State} (h : AlarmHeld z s) {cs : List Change}
    (harmless : ∀ c ∈ cs, ¬ Unlatches z c) : AlarmHeld z (applyRecords cs s).1 := by
  induction cs generalizing s with
  | nil => exact h
  | cons c cs ih =>
    have rest : ∀ c ∈ cs, ¬ Unlatches z c := fun x mem => harmless x (List.mem_cons_of_mem _ mem)
    unfold Machine.applyRecords; split
    · exact ih ((h.applyChange (harmless c List.mem_cons_self)).congr rfl rfl rfl) rest
    · exact ih (h.congr rfl rfl rfl) rest

theorem AlarmHeld.applyPoint {z : Fin 16} {s : State} (h : AlarmHeld z s)
    (harmless : s.hold = false → s.save = none → ∀ c ∈ s.changes, ¬ Unlatches z c) : AlarmHeld z (applyPoint s) := by
  rcases applyPoint_cases s with eq | ⟨off, free, -, eq⟩
  · rw [eq]; exact h
  · have applied := h.applyRecords (harmless off free)
    have closed : ∀ n t, AlarmHeld z t → AlarmHeld z (closeTables n t) := fun n t held => by
      unfold closeTables; dsimp only; split
      · exact held
      · exact (held.group (forEachGroup_groupFrame recomputeRunSet_groupFrame t)).congr rfl rfl rfl
    rw [eq]; exact (closed _ _ applied).congr rfl rfl rfl

/-! ## Every step -/

/-- The commands that may end a latched alarm (R49). -/
def MayUnlatch (c : Instr) (s : State) (z : Fin 16) : Prop :=
  (s.hold = false ∧ s.save = none ∧ ticks c = true ∧ ∃ d ∈ s.changes, Unlatches z d) ∨ TakenAs .standby 0x59 [] c s ∨
    TakenAs .restart 0x5A [] c s ∨ ∃ straps rate, c = .deviceReset straps rate

/-- At an apply point of `t` no record is applied that `s` does not hold applicable. -/
def NoMoreListed (c : Instr) (s t : State) : Prop :=
  applies c = true → (t.hold = false → s.hold = false) ∧ (t.save = none → s.save = none) ∧ ∀ d ∈ t.changes, d ∈ s.changes

/-- What every move of command `c`, which may not end it, keeps of a latched alarm: it is held and the list to apply holds no more
than it did; or an acknowledgement has come, which no evaluation follows. -/
def AlarmStays (c : Instr) (s : State) (z : Fin 16) (t : State) : Prop :=
  (AlarmHeld z t ∧ NoMoreListed c s t) ∨
  (acknowledges c = true ∧ t.mode ≠ .standby ∧ t.zones[z].gas = .alarm)

theorem acknowledgeZone_gas (s : State) (y z : Fin 16) : (acknowledgeZone s y).zones[z].gas = s.zones[z].gas := by
  show (setZone y _ s).zones[z].gas = _
  rw [zones_setZone]; split
  · rename_i is; subst is; rfl
  · rfl

theorem acknowledges_not_applies {c : Instr} (ack : acknowledges c = true) : applies c = false ∧ ticks c = false := by
  cases c <;> first | exact ⟨rfl, rfl⟩ | cases ack

/-- An acknowledgement and the frames of its reply move no gas state. -/
theorem Move.acknowledged {c : Instr} {s₀ s t : State} (h : Move c s₀ s t) (ack : acknowledges c = true) (z : Fin 16)
    (active : s.mode ≠ .standby) : t.mode ≠ .standby ∧ t.zones[z].gas = s.zones[z].gas := by
  have group : ∀ {u : State}, GroupFrame s u → u.mode ≠ .standby ∧ u.zones[z].gas = s.zones[z].gas := fun frame =>
    ⟨frame.mode ▸ active, by rw [frame]⟩
  cases h with
  | plain frame => unfold PlainFrame at frame; rw [frame]; exact ⟨active, rfl⟩
  | deviceReset straps rate s is => subst is; cases ack
  | applyPoint s due => rw [(acknowledges_not_applies ack).2] at due; cases due
  | takePoint node status p s => rw [takePoint_frame]; exact ⟨active, rfl⟩
  | markSettling i s => rw [markSettling_frame]; exact ⟨active, rfl⟩
  | doWork w s works => rw [ack] at works; cases works
  | expireTop g s => exact group (expireTop_groupFrame g s)
  | enterRun s is => subst is; cases ack
  | enterWarmup s taken => obtain ⟨_, _, _, is, -⟩ := taken; subst is; cases ack
  | enterStandby s taken => obtain ⟨_, _, _, is, -⟩ := taken; subst is; cases ack
  | restart s taken => obtain ⟨_, _, _, is, -⟩ := taken; subst is; cases ack
  | acknowledge y s => exact ⟨active, acknowledgeZone_gas s y z⟩
  | push g x s => exact group ((changeStack_groupFrame g _ s).trans (judgeVent_groupFrame _))
  | pop g x xs s => exact group ((changeStack_groupFrame g _ s).trans (judgeVent_groupFrame _))
  | fanReset f s =>
    exact group (((changeFan_fanFrame f _ s).group.trans (recomputeRunSet_groupFrame _ _)).trans (judgeFans_groupFrame _))
  | _ => exact ⟨active, rfl⟩

theorem NoMoreListed.kept {c : Instr} {s t u : State} (h : NoMoreListed c s t) (kept : applies c = true → ListKept t u) :
    NoMoreListed c s u := fun due => by
  obtain ⟨hold, save, changes⟩ := kept due
  rw [hold, save, changes]; exact h due

theorem NoMoreListed.applyPoint {c : Instr} {s t : State} (h : NoMoreListed c s t) : NoMoreListed c s (applyPoint t) :=
  fun due => by
    obtain ⟨hold, save, changes⟩ := h due
    have frame := applyPoint_applyFrame t
    refine ⟨fun off => hold (by rw [frame] at off; exact off), fun free => save (by rw [frame] at free; exact free),
      fun d mem => ?_⟩
    rcases applyPoint_cases t with eq | ⟨-, -, -, eq⟩
    · rw [eq] at mem; exact changes d mem
    · rw [eq] at mem; cases mem

/-- A move of a command that may not end it keeps a latched alarm, or is an acknowledgement. -/
theorem AlarmHeld.move {c : Instr} {s t u : State} {z : Fin 16} (h : Move c s t u) (never : ¬ MayUnlatch c s z)
    (held : AlarmHeld z t) (list : NoMoreListed c s t) : AlarmHeld z u ∨ acknowledges c = true ∧ u.mode = t.mode ∧
      u.zones[z].gas = .alarm := by
  have group : ∀ {v : State}, GroupFrame t v → AlarmHeld z v ∨ acknowledges c = true ∧ v.mode = t.mode ∧
      v.zones[z].gas = .alarm := fun frame => .inl (held.group frame)
  cases h with
  | deviceReset straps rate t is => exact absurd (.inr (.inr (.inr ⟨straps, rate, is⟩))) never
  | applyPoint t due =>
    obtain ⟨hold, save, changes⟩ := list (applies_of_ticks due)
    exact .inl (held.applyPoint fun off free d mem unlatches =>
      never (.inl ⟨hold off, save free, due, d, changes d mem, unlatches⟩))
  | enterRun t is =>
    left; rw [enterRun_frame]; exact ⟨nofun, held.enabled, held.latched⟩
  | enterWarmup t taken idle => exact absurd idle held.mode
  | enterStandby t taken => exact absurd (.inr (.inl taken)) never
  | restart t taken => exact absurd (.inr (.inr (.inl taken))) never
  | doWork w t => exact .inl (held.doWork w)
  | acknowledge y t ack => exact .inr ⟨ack, rfl, (acknowledgeZone_gas t y z).trans held.latched.gas⟩
  | takePoint node status p t => left; rw [takePoint_frame]; exact held.congr rfl rfl rfl
  | markSettling i t => left; rw [markSettling_frame]; exact held.congr rfl rfl rfl
  | plain frame => left; unfold PlainFrame at frame; rw [frame]; exact held.congr rfl rfl rfl
  | expireTop g t => exact group (expireTop_groupFrame g t)
  | push g x t => exact group ((changeStack_groupFrame g _ t).trans (judgeVent_groupFrame _))
  | pop g x xs t => exact group ((changeStack_groupFrame g _ t).trans (judgeVent_groupFrame _))
  | fanReset f t =>
    exact group (((changeFan_fanFrame f _ t).group.trans (recomputeRunSet_groupFrame _ _)).trans (judgeFans_groupFrame _))
  | _ => exact .inl (held.congr rfl rfl rfl)

theorem AlarmStays.move {c : Instr} {s t u : State} {z : Fin 16} (h : Move c s t u) (never : ¬ MayUnlatch c s z)
    (before : AlarmStays c s z t) : AlarmStays c s z u := by
  rcases before with ⟨held, list⟩ | ⟨ack, active, gas⟩
  · have listed : NoMoreListed c s u := by
      rcases h.cases_record with frame | ⟨straps, rate, is, -⟩ | ⟨due, rfl⟩ | ⟨is, -, rfl⟩ | ⟨-, idle, -⟩ | ⟨taken, -⟩ |
        ⟨taken, -⟩
      · exact NoMoreListed.kept list frame.list
      · exact absurd (.inr (.inr (.inr ⟨straps, rate, is⟩))) never
      · exact NoMoreListed.applyPoint list
      · exact fun due => by rw [is] at due; cases due
      · exact absurd idle held.mode
      · exact absurd (.inr (.inl taken)) never
      · exact absurd (.inr (.inr (.inl taken))) never
    rcases held.move h never list with still | ⟨ack, mode, gas⟩
    · exact .inl ⟨still, listed⟩
    · exact .inr ⟨ack, mode ▸ held.mode, gas⟩
  · obtain ⟨active', same⟩ := h.acknowledged ack z active
    exact .inr ⟨ack, active', same.trans gas⟩

/-- Settles O59: no move but those of R49's exits ends a latched alarm. -/
theorem latchedAlarmsStay : Obligations.LatchedAlarmsStay := by
  intro s t c cs z queue h active enabled latch gas unacknowledged
  by_cases may : MayUnlatch c (s.withPending cs) z
  · right
    rcases may with ⟨off, free, due, d, mem, e, rfl, ends⟩ | taken | taken | reset
    · exact .inl ⟨off, free, ticks_iff.mp due, e, mem, ends⟩
    · exact .inr (.inl taken)
    · exact .inr (.inr (.inl taken))
    · exact .inr (.inr (.inr reset))
  · left
    have stays : AlarmStays c (s.withPending cs) z t :=
      exec_keeps (step_front queue h) (.inl ⟨⟨active, enabled, ⟨latch, gas, unacknowledged⟩⟩, fun _ => ⟨id, id, fun _ => id⟩⟩)
        fun _ _ move => AlarmStays.move move may
    rcases stays with ⟨held, -⟩ | ⟨-, -, gas⟩
    · exact held.latched.gas
    · exact gas

end Sys2Proof.Machine
end

section
/-! PROOFS. The hand-over law (R93) over every move: what a permit of a transit DRIVE rests on (R176). -/

namespace Sys2Proof.Machine

/-- R93, for one group's record. -/
def Flagged (mode : Mode) (r : GroupRecord) : Prop := r.handOver = true ↔ HandOverHolds mode r

theorem Flagged.kept {mode : Mode} {r r' : GroupRecord} (h : Flagged mode r) (kept : StagesKept r r') : Flagged mode r' := by
  unfold StagesKept at kept; rw [kept]; exact h

theorem flagged_restaged (s : State) (g : Fin 4) : Flagged s.mode (restagedGroup s g) :=
  handOverDue_iff s.mode (restaged s g)

/-- R93: outside WARMUP and RUN the flag is clear. -/
theorem Flagged.of_standby {mode : Mode} {r : GroupRecord} (idle : mode = .standby) (clear : r.handOver = false) :
    Flagged mode r := iff_of_false (by rw [clear]; exact nofun) fun due => due.1 idle

theorem HandOverLaw.kept {s t : State} (h : HandOverLaw s) (mode : t.mode = s.mode)
    (kept : ∀ g : Fin 4, StagesKept s.groups[g] t.groups[g]) : HandOverLaw t := fun g => by
  have flagged : Flagged s.mode s.groups[g] := h g
  rw [mode]; exact flagged.kept (kept g)

theorem HandOverLaw.same {s t : State} (h : HandOverLaw s) (mode : t.mode = s.mode) (groups : t.groups = s.groups) :
    HandOverLaw t := h.kept mode fun g => .of_eq (by rw [groups])

theorem HandOverLaw.fanFrame {s t : State} (h : HandOverLaw s) (frame : FanFrame s t) : HandOverLaw t :=
  h.same (by rw [frame]) (by rw [frame])

theorem HandOverLaw.judgeAll {s : State} (h : HandOverLaw s) : HandOverLaw (judgeAll s) := h.same rfl rfl
theorem HandOverLaw.judgeAlarm {s : State} (h : HandOverLaw s) : HandOverLaw (judgeAlarm s) := h.same rfl rfl
theorem HandOverLaw.judgeFans {s : State} (h : HandOverLaw s) : HandOverLaw (judgeFans s) := h.same rfl rfl
theorem HandOverLaw.judgeVent {s : State} (h : HandOverLaw s) : HandOverLaw (judgeVent s) := h.same rfl rfl

/-- Recomputed groups hold the flag R93 gives; the others must have held it. -/
theorem Restaged.handOverLaw {gs : List (Fin 4)} {s t : State} (h : Restaged gs s t)
    (others : ∀ g, g ∉ gs → Flagged s.mode s.groups[g]) : HandOverLaw t := fun g => by
  show Flagged t.mode t.groups[g]
  rw [h.frame.mode, h.groups]; split
  · exact flagged_restaged s g
  · exact others g ‹_›

theorem HandOverLaw.restaged {gs : List (Fin 4)} {s t : State} (h : HandOverLaw s) (restaged : Restaged gs s t) :
    HandOverLaw t := restaged.handOverLaw fun g _ => h g

theorem HandOverLaw.recomputeRunSet {s : State} (h : HandOverLaw s) (g : Fin 4) : HandOverLaw (recomputeRunSet g s) :=
  h.kept (recomputeRunSet_groupFrame g s).mode (recomputeRunSet_kept g s)

theorem HandOverLaw.changeStack {s : State} (h : HandOverLaw s) (g : Fin 4) (cs : List Context) :
    HandOverLaw (changeStack g cs s) := fun k => by
  show Flagged (Machine.changeStack g cs s).mode (Machine.changeStack g cs s).groups[k]
  rw [(changeStack_groupFrame g cs s).mode]
  by_cases own : k = g
  · subst own
    rw [changeStack_own]; exact handOverDue_iff s.mode { s.groups[k] with stack := cs }
  · rw [changeStack_other own]; exact h k

theorem HandOverLaw.expireTop {s : State} (h : HandOverLaw s) (g : Fin 4) : HandOverLaw (expireTop g s) := by
  unfold Machine.expireTop; split
  · rename_i c cs top
    have posted : HandOverLaw (post .overrideExpired g.val c.tag s) := h.fanFrame (post_fanFrame _ _ _ s)
    exact (posted.changeStack g cs).judgeAlarm
  · exact h

/-- R92: counting an expiry leaves the kind of the top context. -/
theorem HandOverLaw.countExpiry {s : State} (h : HandOverLaw s) (g : Fin 4) : HandOverLaw (countExpiry g s) := fun k => by
  show Flagged (Machine.countExpiry g s).mode (Machine.countExpiry g s).groups[k]
  have flag : Flagged s.mode s.groups[k] := h k
  rw [(countExpiry_groupFrame g s).mode, countExpiry_record]
  rcases countExpiry_stacks g k s with same | ⟨c, cs, n, was, now⟩
  · rw [same]; exact flag
  · unfold Flagged HandOverHolds at flag ⊢
    rw [now]; rw [was] at flag
    rw [flag]; simp

theorem HandOverLaw.updateStage {s : State} (h : HandOverLaw s) (g : Fin 4) : HandOverLaw (updateStage g s) := fun k => by
  show Flagged (Machine.updateStage g s).mode (Machine.updateStage g s).groups[k]
  have written : (Machine.updateStage g s).groups[k] = _ := groups_setGroup g k _ s
  have flag : Flagged s.mode s.groups[k] := h k
  rw [written]; split
  · rename_i own; subst own
    rw [stepStage_record]; exact flag
  · exact flag

/-! ## Zones and applied records -/

theorem HandOverLaw.replaceZone {s : State} (h : HandOverLaw s) (z : Fin 16) (new : ZoneRecord) :
    HandOverLaw (replaceZone z new s) :=
  h.same (replaceZone_zoneFrame z new s).mode (by rw [replaceZone_eq])

theorem HandOverLaw.writeZone {s : State} (h : HandOverLaw s) (z : Fin 16) (new : ZoneRecord) :
    HandOverLaw (writeZone z new s) := by
  unfold Machine.writeZone; dsimp only
  refine HandOverLaw.judgeAlarm ?_
  split
  · exact h.replaceZone z new
  · exact (h.replaceZone z new).restaged (forEachGroup_restaged (servedGroups_nodup _) _)

theorem HandOverLaw.evaluateZone {s : State} (h : HandOverLaw s) (z : Fin 16) : HandOverLaw (evaluateZone z s) := by
  unfold Machine.evaluateZone evaluateSpill evaluateContacts evaluateRising evaluateGas
  exact (((h.writeZone z _).writeZone z _).writeZone z _).writeZone z _

theorem HandOverLaw.applyZone {s : State} (h : HandOverLaw s) (z : Fin 16) (e : ZoneEntry) : HandOverLaw (applyZone z e s) := by
  have written : HandOverLaw { s with tables := { s.tables with zones := s.tables.zones.set z (storedZone e) } } := h.same rfl rfl
  unfold Machine.applyZone; dsimp only
  split
  · exact h
  · split
    · exact h.same rfl rfl
    · exact (written.replaceZone z _).restaged (forEachGroup_restaged (servedGroups_nodup _) _)

theorem HandOverLaw.applyGroup {s : State} (h : HandOverLaw s) (g : Fin 4) (e : GroupEntry) :
    HandOverLaw (applyGroup g e s) := by
  unfold Machine.applyGroup; dsimp only
  split
  · exact h
  · split
    · exact h.same rfl rfl
    · refine HandOverLaw.recomputeRunSet ((restage_restaged g _).handOverLaw fun k unlisted => ?_) g
      rw [groups_setGroup, if_neg fun is => unlisted (List.mem_singleton.mpr is.symm)]
      exact h k

theorem HandOverLaw.applyFan {s : State} (h : HandOverLaw s) (f : Fin 8) (e : FanEntry) : HandOverLaw (applyFan f e s) := by
  have written : HandOverLaw { s with tables := { s.tables with fans := s.tables.fans.set f e } } := h.same rfl rfl
  have restarted := (written.fanFrame (changeFan_fanFrame f FanRecord.cleared _)).fanFrame (joinHandOver_fanFrame f e _)
  unfold Machine.applyFan; dsimp only
  split
  · exact h
  · split
    · exact restarted.recomputeRunSet _
    · exact (restarted.recomputeRunSet _).recomputeRunSet _

theorem HandOverLaw.applyChange {s : State} (h : HandOverLaw s) (c : Change) : HandOverLaw (applyChange c s) := by
  cases c with
  | binding i e =>
    show HandOverLaw (applyBinding i e s)
    unfold applyBinding takeNotice; dsimp only; split <;> exact h.same rfl rfl
  | zone z e => exact h.applyZone z e
  | group g e => exact h.applyGroup g e
  | fan f e => exact h.applyFan f e
  | device e => exact h.same rfl rfl

theorem HandOverLaw.applyRecords {s : State} (h : HandOverLaw s) (cs : List Change) : HandOverLaw (applyRecords cs s).1 := by
  induction cs generalizing s with
  | nil => exact h
  | cons c cs ih =>
    unfold Machine.applyRecords; split
    · exact ih ((h.applyChange c).same rfl rfl)
    · exact ih (h.fanFrame (post_fanFrame _ _ _ s))

theorem HandOverLaw.closeTables {s : State} (h : HandOverLaw s) (n : Nat) : HandOverLaw (closeTables n s) := by
  unfold Machine.closeTables; dsimp only; split
  · exact h
  · exact (h.kept (forEachGroup_groupFrame recomputeRunSet_groupFrame s).mode (forEachGroup_kept (List.finRange 4) s)).same
      rfl rfl

theorem HandOverLaw.applyPoint {s : State} (h : HandOverLaw s) : HandOverLaw (applyPoint s) := by
  rcases applyPoint_cases s with eq | ⟨-, -, -, eq⟩
  · rw [eq]; exact h
  · rw [eq]; exact ((h.applyRecords _).closeTables _).same rfl rfl

/-! ## The work of a completion, and the modes -/

theorem dispatchNext_groups (s : State) : (dispatchNext s).groups = s.groups ∧ (dispatchNext s).mode = s.mode := by
  unfold dispatchNext; dsimp only
  split
  · exact ⟨rfl, rfl⟩
  · split <;> exact ⟨rfl, rfl⟩

theorem HandOverLaw.doWork {s : State} (h : HandOverLaw s) (w : Work) : HandOverLaw (doWork w s) := by
  cases w with
  | age =>
    show HandOverLaw (ageChannels s)
    rw [ageChannels_frame]; exact h.same rfl rfl
  | evaluate z => exact h.evaluateZone z
  | endPass => exact h.judgeAll
  | stepBegins g => exact h.fanFrame (beginGroupStep_fanFrame g s)
  | countExpiry g => exact h.countExpiry g
  | stageUpdate g => exact h.updateStage g
  | startsStops g => exact (h.fanFrame (startsAndStops_fanFrame g s)).judgeAlarm
  | supervise g =>
    have frame := judgeGroup_turnFrame g s
    have judged : HandOverLaw (judgeGroup g s) := h.same (by rw [frame]) frame.groups
    show HandOverLaw (superviseGroup g s)
    unfold superviseGroup failOver; split
    · exact judged.recomputeRunSet g
    · exact judged
  | setpoints g => exact (h.fanFrame (writeSetpoints_fanFrame g s)).judgeFans
  | countHold => unfold Machine.doWork; dsimp only; split <;> exact h.same rfl rfl
  | countWarmup => unfold Machine.doWork; dsimp only; split <;> exact h.same rfl rfl
  | countFaulted => unfold Machine.doWork; dsimp only; split <;> exact h.same rfl rfl
  | close =>
    unfold Machine.doWork; dsimp only; split
    · have dispatch := dispatchNext_groups { s with segment := .transit, dispatched := 0 }
      exact h.same dispatch.2 dispatch.1
    · exact h

/-- R83, R93: at a mode change every group's hand-over is judged anew. -/
theorem regroup_handOverLaw (s : State) : HandOverLaw (regroup s) := by
  have restaged := (forEachGroup_restaged (List.nodup_finRange 4) s).handOverLaw
    fun g unlisted => absurd (List.mem_finRange g) unlisted
  exact restaged.kept (forEachGroup_groupFrame recomputeRunSet_groupFrame _).mode (forEachGroup_kept _ _)

theorem enterRun_handOverLaw (s : State) : HandOverLaw (enterRun s) := (regroup_handOverLaw _).judgeAll

theorem enterWarmup_handOverLaw (s : State) : HandOverLaw (enterWarmup s) := by
  have timed : ∀ t, HandOverLaw t → HandOverLaw { warmupSegment t with timerOn := true } := fun t h => by
    have frame := warmupSegment_frame t
    unfold SegmentFrame at frame
    exact h.same (by rw [frame]) (by rw [frame])
  exact (timed _ (regroup_handOverLaw _)).judgeAll

theorem enterStandby_handOverLaw (s : State) : HandOverLaw (enterStandby s) := fun g => by
  refine Flagged.of_standby (by rw [enterStandby_frame]) ?_
  have kept := enterStandby_groups s g
  unfold StagesKept at kept
  rw [kept]; rfl

theorem restartRuntime_handOverLaw (s : State) : HandOverLaw (restartRuntime s) := fun g => by
  refine Flagged.of_standby (by rfl) ?_
  show (computedRunSets s.tables _ (Vector.replicate 4 GroupRecord.cleared))[g].handOver = _
  unfold computedRunSets
  simp only [Fin.getElem_fin, Vector.getElem_ofFn, Vector.getElem_replicate]
  rfl

/-- Every move keeps the hand-over law. -/
theorem HandOverLaw.move {c : Instr} {s₀ s t : State} (h : Move c s₀ s t) (before : HandOverLaw s) : HandOverLaw t := by
  cases h with
  | plain frame => unfold PlainFrame at frame; exact before.same (by rw [frame]) (by rw [frame])
  | deviceReset straps rate s => exact restartRuntime_handOverLaw _
  | restart s => exact restartRuntime_handOverLaw _
  | applyPoint s => exact before.applyPoint
  | takePoint node status p s => rw [takePoint_frame]; exact before.same rfl rfl
  | markSettling i s => rw [markSettling_frame]; exact before.same rfl rfl
  | doWork w s => exact before.doWork w
  | expireTop g s => exact before.expireTop g
  | enterRun s => exact enterRun_handOverLaw s
  | enterWarmup s => exact enterWarmup_handOverLaw s
  | enterStandby s => exact enterStandby_handOverLaw s
  | push g x s => exact (before.changeStack g _).judgeVent
  | pop g x xs s => exact (before.changeStack g _).judgeVent
  | fanReset f s => exact ((before.fanFrame (changeFan_fanFrame f _ s)).recomputeRunSet _).judgeFans
  | _ => exact before.same rfl rfl

theorem HandOverLaw.moves {c : Instr} {s₀ s t : State} (h : Moves c s₀ s t) (before : HandOverLaw s) : HandOverLaw t :=
  h.keep before fun _ _ move => HandOverLaw.move move

end Sys2Proof.Machine
end

section
/-! PROOFS. How a command leaves the work of a completion and the transaction in flight: the law of transit DRIVEs (O60), and the
laws of STANDBY and of waiting completions (O55). -/

namespace Sys2Proof.Machine

/-! ## What the two laws read -/

/-- R176: a transit DRIVE about to be sent goes to a fan of a group with MANUAL on top and a floor of 0. -/
def DriveSafe (t : State) : Prop :=
  ∀ tr, t.transaction = some tr → tr.owner = .transit → tr.phase = .sending → tr.frame.kind = 0x12 →
    ∃ f : Fin 8, t.tables.fans[f].enabled = true ∧ byteOf t.tables.fans[f].driveNode = tr.frame.dst ∧
      t.groups[t.tables.fans[f].group].floor = 0 ∧
      ∃ c cs, t.groups[t.tables.fans[f].group].stack = c :: cs ∧ c.kind = .manual

theorem DriveSafe.of_none {t : State} (idle : t.transaction = none) : DriveSafe t := fun tr is => by
  rw [idle] at is; cases is

/-- A transaction may be in flight: no work is left, and the segment is POLLING or TRANSIT. -/
def InFlight (s : State) : Prop := s.work = [] ∧ (s.segment = .polling ∨ s.segment = .transit)

theorem CompletionLaw.inFlight {s : State} {tr : Transaction} (h : CompletionLaw s) (is : s.transaction = some tr) :
    InFlight s := h.1 (by rw [is]; exact nofun)

/-- With no transaction in flight and no work left, no completion waits. -/
theorem CompletionLaw.of_idle {t : State} (idle : t.transaction = none) (work : t.work = []) : CompletionLaw t :=
  ⟨fun busy => absurd idle busy, by rw [work]; exact nofun, fun w ws is => by rw [work] at is; cases is⟩

theorem CompletionLaw.of_inFlight {t : State} (h : InFlight t) : CompletionLaw t := by
  obtain ⟨work, segment⟩ := h
  exact ⟨fun _ => ⟨work, segment⟩, by rw [work]; exact nofun, fun w ws is => by rw [work] at is; cases is⟩

/-- Nothing changed that the completion and its counts read. -/
def CountsFrame (s t : State) : Prop :=
  t = { s with pending := t.pending, draws := t.draws, inReset := t.inReset, zones := t.zones, outputs := t.outputs
               timerOn := t.timerOn, deferredTick := t.deferredTick, cycleCount := t.cycleCount, contention := t.contention
               dispatched := t.dispatched, pollList := t.pollList, releaseLine := t.releaseLine, changes := t.changes
               transits := t.transits, transitCount := t.transitCount, trunkPort := t.trunkPort
               trunkAddress := t.trunkAddress, trunkRate := t.trunkRate, store := t.store, storeValid := t.storeValid
               save := t.save, events := t.events, lost := t.lost, chains := t.chains }

theorem CountsFrame.refl (s : State) : CountsFrame s s := rfl

theorem endsCount_congr {s t : State} (h : CountsFrame s t) (w : Work) : endsCount t w = endsCount s w := by
  unfold CountsFrame at h; rw [h]; cases w <;> rfl

theorem CompletionLaw.congr {s t : State} (h : CompletionLaw s) (frame : CountsFrame s t) : CompletionLaw t := by
  have counts := endsCount_congr frame
  have work : t.work = s.work := by rw [frame]
  have transaction : t.transaction = s.transaction := by rw [frame]
  have segment : t.segment = s.segment := by rw [frame]
  unfold CompletionLaw
  simp only [work, transaction, segment, counts]; exact h

/-- The transaction in flight stays, or the one that begins is lawful. -/
def Sends (s t : State) : Prop := t.transaction = s.transaction ∨ DriveSafe t

theorem Sends.safe {s t : State} (h : Sends s t) (idle : s.transaction = none) : DriveSafe t :=
  h.elim (fun same => .of_none (same.trans idle)) id

/-! ## Dispatch and the work -/

/-- R176: what dispatch sends is permitted, and under the hand-over law so is a safe DRIVE. -/
theorem dispatchNext_sends {s : State} (law : HandOverLaw s) : Sends s (dispatchNext s) := by
  unfold dispatchNext; dsimp only
  split
  · exact .inl rfl
  · split
    · exact .inl rfl
    · rename_i e taken
      right
      rintro tr ⟨⟩ - - kind
      rcases takeWaiting_cases s s.transits with ⟨-, eq⟩ | ⟨_, e', _, -, -, permit, -, eq⟩
      · rw [eq] at taken; cases taken
      · rw [eq] at taken
        obtain rfl : e' = e := by simpa using taken
        have drive : e'.kind = .drive := by
          cases k : e'.kind with
          | drive => rfl
          | _ => simp only [fieldFrame, k] at kind; exact absurd kind (by decide)
        rw [drive] at permit
        simp only [permitted, drivePermitted, List.any_eq_true, Bool.and_eq_true, beq_iff_eq] at permit
        obtain ⟨f, -, ⟨enabled, node⟩, flag⟩ := permit
        obtain ⟨-, manual, floor⟩ := (law _).mp flag
        exact ⟨f, enabled, by rw [node]; rfl, floor, manual⟩

theorem dispatchNext_work (s : State) : (dispatchNext s).work = s.work := by
  unfold dispatchNext; dsimp only
  split
  · rfl
  · split <;> rfl

/-- R143: dispatch leaves a transaction in flight on the TRANSIT segment, or the one it found. -/
theorem dispatchNext_begins (s : State) :
    (dispatchNext s).transaction = s.transaction ∨ (dispatchNext s).segment = s.segment := by
  unfold dispatchNext; dsimp only
  split
  · exact .inl rfl
  · split
    · exact .inl rfl
    · exact .inr rfl

theorem dispatchNext_completion {s : State} (idle : s.transaction = none) (flight : InFlight s) :
    CompletionLaw (dispatchNext s) := by
  obtain ⟨work, segment⟩ := flight
  have left : (dispatchNext s).work = [] := (dispatchNext_work s).trans work
  rcases dispatchNext_begins s with same | same
  · exact .of_idle (same.trans idle) left
  · exact .of_inFlight ⟨left, by rw [same]; exact segment⟩

/-- A piece of work that is no dispatch begins no transaction and leaves the segment. -/
theorem doWork_line {w : Work} (other : w ≠ .close) (s : State) :
    (doWork w s).transaction = s.transaction ∧ (doWork w s).segment = s.segment := by
  have group : ∀ {t : State}, GroupFrame s t → t.transaction = s.transaction ∧ t.segment = s.segment := fun h => by
    rw [h]; exact ⟨rfl, rfl⟩
  cases w with
  | age => show (ageChannels s).transaction = _ ∧ (ageChannels s).segment = _; rw [ageChannels_frame]; exact ⟨rfl, rfl⟩
  | evaluate z =>
    show (evaluateZone z s).transaction = _ ∧ (evaluateZone z s).segment = _
    rw [evaluateZone_zoneFrame z s]; exact ⟨rfl, rfl⟩
  | endPass => exact group (judgeAll_groupFrame s)
  | stepBegins g => exact group (beginGroupStep_fanFrame g s).group
  | countExpiry g => exact group (countExpiry_groupFrame g s)
  | stageUpdate g => exact ⟨rfl, rfl⟩
  | startsStops g => exact group ((startsAndStops_fanFrame g s).group.trans (judgeAlarm_groupFrame _))
  | supervise g => exact group (superviseGroup_groupFrame g s)
  | setpoints g => exact group ((writeSetpoints_fanFrame g s).group.trans (judgeFans_groupFrame _))
  | countHold => unfold doWork; dsimp only; split <;> exact ⟨rfl, rfl⟩
  | countWarmup => unfold doWork; dsimp only; split <;> exact ⟨rfl, rfl⟩
  | countFaulted => unfold doWork; dsimp only; split <;> exact ⟨rfl, rfl⟩
  | close => exact absurd rfl other

/-- R143: on another segment than a POLLING one no transit is dispatched. -/
theorem runWork_line (ws : List Work) {s : State} (quiet : s.segment ≠ .polling) :
    (runWork ws s).transaction = s.transaction ∧ (runWork ws s).segment = s.segment := by
  refine runWork_induction (P := fun t => t.transaction = s.transaction ∧ t.segment = s.segment) (fun _ _ h => h)
    (fun w t _ h => ?_) ws s ⟨rfl, rfl⟩
  by_cases closes : w = .close
  · subst closes
    unfold doWork; dsimp only
    rw [if_neg (by rw [h.2]; exact quiet)]; exact h
  · obtain ⟨transaction, segment⟩ := doWork_line closes t
    exact ⟨transaction.trans h.1, segment.trans h.2⟩

/-- Where dispatch is the last piece of the work it is the last of every end of the work. -/
theorem close_last {w : Work} {ws : List Work} (last : Work.close ∉ (w :: ws).dropLast) :
    Work.close ∉ ws.dropLast ∧ (w = .close → ws = []) := by
  cases ws with
  | nil => exact ⟨nofun, fun _ => rfl⟩
  | cons v vs =>
    rw [List.dropLast_cons_cons, List.mem_cons, not_or] at last
    exact ⟨last.2, fun is => absurd is.symm last.1⟩

theorem doWork_close_sends {s : State} (law : HandOverLaw s) : Sends s (doWork .close s) := by
  unfold doWork; dsimp only; split
  · exact dispatchNext_sends (s := { s with segment := .transit, dispatched := 0 }) (law.same rfl rfl)
  · exact .inl rfl

/-- O60's rule over the work of a completion: only its last piece begins a transaction. -/
theorem runWork_sends (ws : List Work) {s : State} (law : HandOverLaw s) (last : Work.close ∉ ws.dropLast) :
    Sends s (runWork ws s) := by
  induction ws generalizing s with
  | nil => exact .inl rfl
  | cons w ws ih =>
    obtain ⟨rest, alone⟩ := close_last last
    unfold runWork; split
    · exact .inl rfl
    · by_cases closes : w = .close
      · subst closes
        rw [alone rfl]; exact doWork_close_sends law
      · have same := (doWork_line closes s).1
        exact (ih (law.doWork w) rest).imp_left fun k => k.trans same

theorem doWork_close_completion {s : State} (idle : s.transaction = none) :
    CompletionLaw (runWork [] (doWork .close s)) := by
  unfold doWork; dsimp only; split
  · rcases dispatchNext_begins { s with segment := .transit, dispatched := 0 } with same | same
    · exact .of_idle (same.trans idle) rfl
    · exact .of_inFlight ⟨rfl, .inr same⟩
  · exact .of_idle idle rfl

/-- R142: work begun with no transaction in flight ends lawfully, or pauses at the end of a count. -/
theorem runWork_completion (ws : List Work) {s : State} (idle : s.transaction = none) (last : Work.close ∉ ws.dropLast) :
    CompletionLaw (runWork ws s) := by
  induction ws generalizing s with
  | nil => exact .of_idle idle rfl
  | cons w ws ih =>
    obtain ⟨rest, alone⟩ := close_last last
    unfold runWork; split
    · rename_i ends
      refine ⟨fun busy => absurd idle busy, last, fun v vs is => ?_⟩
      obtain ⟨rfl, rfl⟩ := List.cons.inj is
      rw [← ends]; cases w <;> rfl
    · by_cases closes : w = .close
      · subst closes
        rw [alone rfl]; exact doWork_close_completion idle
      · exact ih ((doWork_line closes s).1.trans idle) rest

theorem runWork_last {ws : List Work} (last : Work.close ∉ ws.dropLast) (s : State) :
    Work.close ∉ (runWork ws s).work.dropLast := by
  obtain ⟨front, eq⟩ := (runWork_rest ws s).1
  intro mem
  refine last ?_
  rw [← eq]
  by_cases none : (runWork ws s).work = []
  · rw [none] at mem; cases mem
  · rw [List.dropLast_append_of_ne_nil none]; exact List.mem_append_right _ mem

/-- R142: dispatch is the last piece of a completion's work. -/
theorem completionWork_last (empty : Bool) (s : State) : Work.close ∉ (completionWork empty s).1.dropLast := by
  unfold completionWork; dsimp only
  rw [List.dropLast_concat]
  simp only [List.mem_append, List.mem_cons, List.mem_map, List.mem_flatMap, List.not_mem_nil, or_false, reduceCtorEq,
    false_or, and_false, exists_false]
  rintro (⟨g, -, mem⟩ | mem)
  · simp [groupWork] at mem
  · have counted := (freeOrder_perm _ _).mem_iff.mp mem
    unfold countsDue at counted
    repeat' split at counted
    all_goals simp at counted

theorem surveyCompletion_completion (empty : Bool) {s : State} (idle : s.transaction = none) :
    CompletionLaw (surveyCompletion empty s) := by
  unfold surveyCompletion
  refine runWork_completion _ ?_ (completionWork_last _ _)
  rw [completionWork_drawFrame]; exact idle

theorem surveyCompletion_sends (empty : Bool) {s : State} (law : HandOverLaw s) : Sends s (surveyCompletion empty s) := by
  have frame := completionWork_drawFrame empty { s with cycleCount := s.cycleCount + 1 }
  have same : (completionWork empty { s with cycleCount := s.cycleCount + 1 }).2.transaction = s.transaction := by rw [frame]
  refine (runWork_sends _ (law.same ?_ ?_) (completionWork_last _ _)).imp_left fun k => k.trans same
  · rw [frame]
  · rw [frame]

/-! ## The attempt in flight -/

/-- From an attempt in flight in `s` the port has gone on to `t`. -/
structure Ends (s t : State) : Prop where
  completion : InFlight s → CompletionLaw t
  safe : HandOverLaw s → DriveSafe t

/-- Only the records of nodes, channels and transit entries, the contention count and the transaction changed, with events. -/
def NodeFrame (s t : State) : Prop :=
  t = { s with draws := t.draws, channels := t.channels, contention := t.contention, transaction := t.transaction
               pollList := t.pollList, transits := t.transits, events := t.events, lost := t.lost }

theorem NodeFrame.trans {s t u : State} (h : NodeFrame s t) (k : NodeFrame t u) : NodeFrame s u := by
  unfold NodeFrame at *; rw [h] at k; exact k

theorem NodeFrame.inFlight {s t : State} (h : NodeFrame s t) (flight : InFlight s) : InFlight t := by
  unfold InFlight; rw [h]; exact flight

theorem NodeFrame.law {s t : State} (h : NodeFrame s t) (law : HandOverLaw s) : HandOverLaw t :=
  law.same (by rw [h]) (by rw [h])

theorem NodeFrame.ends {s t u : State} (h : NodeFrame s t) (k : Ends t u) : Ends s u :=
  ⟨fun flight => k.completion (h.inFlight flight), fun law => k.safe (h.law law)⟩

theorem nodeOutcome_frame (a : Nat) (answered : Bool) (s : State) :
    NodeFrame s (nodeOutcome a answered s) ∧ (nodeOutcome a answered s).transaction = s.transaction := by
  have posted : ∀ (old new : NodeState) (miss : Nat) (t : State),
      NodeFrame t (postNode a old new miss t) ∧ (postNode a old new miss t).transaction = t.transaction := fun old new miss t => by
    unfold postNode; split <;> exact ⟨rfl, rfl⟩
  unfold nodeOutcome; dsimp only; split
  · exact ⟨rfl, rfl⟩
  · obtain ⟨frame, same⟩ := posted _ _ _ _
    exact ⟨NodeFrame.trans (by rfl) frame, same⟩

theorem countError_frame (a : Nat) (s : State) : NodeFrame s (countError a s) := rfl

theorem readingArrival_frame (a : Nat) (payload : List Byte) (s : State) : NodeFrame s (readingArrival a payload s) := by
  unfold readingArrival
  generalize (readingPoints payload).getD [] = ps
  induction ps generalizing s with
  | nil => exact rfl
  | cons p ps ih =>
    refine NodeFrame.trans ?_ (ih _)
    have point := takePoint_frame a (payload.getD 0 0) p s
    unfold NodeFrame; rw [point]

theorem endTransit_frame (r : TransitResult) (reading : List Byte) (s : State) :
    NodeFrame s (endTransit r reading s) ∧ (endTransit r reading s).transaction = none := by
  have marked : ∀ (t : State) (a : Nat), NodeFrame t (markNode a t) ∧ (markNode a t).transaction = t.transaction := fun t a =>
    forEachFree_induction (P := fun u => NodeFrame t u ∧ u.transaction = t.transaction) (fun _ => ⟨rfl, rfl⟩)
      fun i _ u h => by
        have mark := markSettling_frame i u
        exact ⟨h.1.trans (by unfold NodeFrame; rw [mark]), by rw [mark]; exact h.2⟩
  unfold endTransit marksOf
  split
  · split
    · obtain ⟨frame, same⟩ := marked { s with transaction := none, transits := s.transits.map (completedEntry r reading) } _
      exact ⟨NodeFrame.trans (by rfl) frame, same⟩
    · exact ⟨rfl, rfl⟩
  · exact ⟨rfl, rfl⟩

theorem pollAfter_ends (a : Nat) (s : State) : Ends s (pollAfter a s) := by
  unfold pollAfter; split
  · refine ⟨fun flight => .of_inFlight flight, fun _ => ?_⟩
    rintro tr ⟨⟩ ⟨⟩
  · have cleared : ∀ u : State, HandOverLaw s → u = { s with transaction := none } → HandOverLaw u := fun u law is => by
      rw [is]; exact law
    exact ⟨fun _ => surveyCompletion_completion false rfl,
      fun law => (surveyCompletion_sends false (s := { s with transaction := none }) law).safe rfl⟩

theorem pollFailed_ends (t : Transaction) (a : Nat) (s : State) : Ends s (pollFailed t a s) := by
  unfold pollFailed; split
  · refine ⟨fun flight => .of_inFlight flight, fun _ => ?_⟩
    rintro tr ⟨⟩ - ⟨⟩
  · exact (nodeOutcome_frame a false s).1.ends (pollAfter_ends _ _)

theorem afterTransit_ends {s : State} (idle : s.transaction = none) : Ends s (afterTransit s) := by
  unfold afterTransit; split
  · exact ⟨fun flight => .of_inFlight flight, fun _ => .of_none idle⟩
  · exact ⟨dispatchNext_completion idle, fun law => (dispatchNext_sends law).safe idle⟩

theorem transit_ends (r : TransitResult) (reading : List Byte) (s : State) :
    Ends s (afterTransit (endTransit r reading s)) := by
  obtain ⟨frame, idle⟩ := endTransit_frame r reading s
  exact frame.ends (afterTransit_ends idle)

theorem attemptFailed_ends (t : Transaction) (s : State) : Ends s (attemptFailed t s) := by
  unfold attemptFailed; split
  · exact (countError_frame _ s).ends (pollFailed_ends _ _ _)
  · exact transit_ends _ _ s

theorem attemptAnswered_ends (t : Transaction) (reply : Frame) (s : State) : Ends s (attemptAnswered t reply s) := by
  unfold attemptAnswered; split
  · exact ((nodeOutcome_frame _ true s).1.trans (readingArrival_frame _ _ _)).ends (pollAfter_ends _ _)
  · exact transit_ends _ _ s

/-- Another segment, with no transaction in flight. -/
theorem changeSegment_line (new : Segment) (s : State) :
    (changeSegment new s).transaction = s.transaction ∧ (changeSegment new s).work = s.work ∧
      (HandOverLaw s → HandOverLaw (changeSegment new s)) := by
  have frame := changeSegment_frame new s
  unfold SegmentFrame at frame
  exact ⟨by rw [frame], by rw [frame], fun law => law.same (by rw [frame]) (by rw [frame])⟩

/-- A walk that ends early completes from another segment. -/
theorem earlyEnd_ends {s t : State} (idle : t.transaction = none) (law : HandOverLaw s → HandOverLaw t) :
    Ends s (surveyCompletion false t) :=
  ⟨fun _ => surveyCompletion_completion false idle, fun before => (surveyCompletion_sends false (law before)).safe idle⟩

theorem attemptContended_ends (t : Transaction) (s : State) : Ends s (attemptContended t s) := by
  have counted : NodeFrame s { s with contention := s.contention + 1 } := rfl
  unfold attemptContended; dsimp only; split
  · split
    · rename_i a _
      obtain ⟨frame, idle⟩ := nodeOutcome_frame a false { s with contention := s.contention + 1, transaction := none }
      obtain ⟨transaction, -, law⟩ :=
        changeSegment_line .faulted { nodeOutcome a false { s with contention := s.contention + 1, transaction := none } with
          countdown := 2 }
      refine earlyEnd_ends (transaction.trans idle) fun before => law ?_
      exact (frame.law (s := { s with contention := s.contention + 1, transaction := none }) before).same rfl rfl
    · obtain ⟨frame, idle⟩ := endTransit_frame .abandoned [] { s with contention := s.contention + 1 }
      obtain ⟨transaction, work, -⟩ :=
        changeSegment_line .faulted { endTransit .abandoned [] { s with contention := s.contention + 1 } with countdown := 2 }
      have none := transaction.trans idle
      refine ⟨fun flight => .of_idle none (work.trans ?_), fun _ => .of_none none⟩
      exact (frame.inFlight (s := { s with contention := s.contention + 1 }) flight).1
  · split
    · exact counted.ends (pollFailed_ends _ _ _)
    · exact counted.ends (transit_ends _ _ _)

theorem endReception_ends (chars : List Byte) (t : Transaction) (s : State) :
    endReception chars t s = s ∨ Ends s (endReception chars t s) := by
  unfold endReception; split
  · exact .inl rfl
  · split
    · exact .inr (attemptAnswered_ends _ _ s)
    · exact .inr (attemptFailed_ends _ s)
  · exact .inr (attemptFailed_ends _ s)

/-! ## Commands -/

/-- What a command keeps of the two laws. -/
structure LineEffect (s t : State) : Prop where
  completion : CompletionLaw s → CompletionLaw t
  sends : HandOverLaw s → Work.close ∉ s.work.dropLast → Sends s t

theorem LineEffect.refl (s : State) : LineEffect s s := ⟨id, fun _ _ => .inl rfl⟩

theorem CountsFrame.effect {s t : State} (h : CountsFrame s t) : LineEffect s t :=
  ⟨fun law => law.congr h, fun _ _ => .inl (by rw [h])⟩

/-- Before a command that acts on `u`, only what the completion does not read had changed. -/
theorem CountsFrame.then {s u t : State} (h : CountsFrame s u) (k : LineEffect u t) : LineEffect s t := by
  have transaction : u.transaction = s.transaction := by rw [h]
  have work : u.work = s.work := by rw [h]
  refine ⟨fun law => k.completion (law.congr h), fun law last => ?_⟩
  exact (k.sends (law.same (by rw [h]) (by rw [h])) (by rw [work]; exact last)).imp_left fun same => same.trans transaction

theorem LineEffect.of_none {s t : State} (idle : t.transaction = none) (work : t.work = []) : LineEffect s t :=
  ⟨fun _ => .of_idle idle work, fun _ _ => .inr (.of_none idle)⟩

/-- An event of the attempt in flight, where there is one in the phase it ends. -/
theorem inPhase_effect {p : Phase} {f : Transaction → State → State} {s : State}
    (h : ∀ t, s.transaction = some t → f t s = s ∨ Ends s (f t s)) : LineEffect s (inPhase p f s) := by
  unfold inPhase; split
  · rename_i t is
    split
    · rcases h t is with eq | ends
      · rw [eq]; exact .refl s
      · exact ⟨fun law => ends.completion (law.inFlight is), fun law _ => .inr (ends.safe law)⟩
    · exact .refl s
  · exact .refl s

theorem toPhase_ends {p : Phase} (later : p ≠ .sending) (t : Transaction) (s : State) : Ends s (toPhase p t s) := by
  refine ⟨fun flight => .of_inFlight flight, fun _ => ?_⟩
  rintro tr ⟨⟩ - phase
  exact absurd phase later

/-- The work left goes on in a state that has the transaction, the segment and the work of `s`. -/
theorem resume_effect {s u : State} (work : u.work = s.work) (transaction : u.transaction = s.transaction)
    (segment : u.segment = s.segment) (law : HandOverLaw s → HandOverLaw u) : LineEffect s (resume u) := by
  unfold resume
  rw [work]
  refine ⟨fun before => ?_, fun before last => (runWork_sends _ (law before) last).imp_left fun same => same.trans transaction⟩
  cases flying : s.transaction with
  | none => exact runWork_completion _ (transaction.trans flying) before.2.1
  | some tr =>
    obtain ⟨left, on⟩ := before.inFlight flying
    rw [left]
    exact .of_inFlight ⟨rfl, by rw [← segment] at on; exact on⟩

/-- A count that a completion waited for has come to its end, and the work after it goes on. -/
theorem counted_effect {s u : State} {w : Work} {ws : List Work} (waits : waitingCount s = some (w, ws))
    (transaction : u.transaction = s.transaction) (law : HandOverLaw s → HandOverLaw u) : LineEffect s (runWork ws u) := by
  obtain ⟨work, -⟩ := waitingCount_eq_some.mp waits
  refine ⟨fun before => ?_, fun before last => ?_⟩
  · have idle : s.transaction = none := by
      cases flying : s.transaction with
      | none => rfl
      | some tr => rw [(before.inFlight flying).1] at work; cases work
    exact runWork_completion _ (transaction.trans idle) (close_last (work ▸ before.2.1)).1
  · exact (runWork_sends _ (law before) (close_last (work ▸ last)).1).imp_left fun same => same.trans transaction

/-! ## Ticks and the release line -/

theorem startCycle_effect {s : State} (work : s.work = []) : LineEffect s (startCycle s) := by
  have ends := pollAfter_ends 0 (applyPoint { s with segment := .polling, deferredTick := false })
  have frame := applyPoint_applyFrame { s with segment := .polling, deferredTick := false }
  refine ⟨fun _ => ends.completion ⟨?_, .inl ?_⟩, fun law _ => .inr (ends.safe ?_)⟩
  · rw [frame]; exact work
  · rw [frame]
  · exact HandOverLaw.applyPoint (s := { s with segment := .polling, deferredTick := false }) (law.same rfl rfl)

/-- On another segment than a POLLING or TRANSIT one no transaction is in flight (R135). -/
theorem CompletionLaw.idle {s : State} (h : CompletionLaw s) (off : ¬ (s.segment = .polling ∨ s.segment = .transit)) :
    s.transaction = none := by
  cases flying : s.transaction with
  | none => rfl
  | some tr => exact absurd (h.inFlight flying).2 off

theorem emptyCycle_effect {s : State} (off : ¬ (s.segment = .polling ∨ s.segment = .transit)) : LineEffect s (emptyCycle s) := by
  have same : (applyPoint s).transaction = s.transaction := by rw [applyPoint_applyFrame s]
  unfold emptyCycle
  exact ⟨fun law => surveyCompletion_completion true (same.trans (law.idle off)), fun law _ =>
    (surveyCompletion_sends true law.applyPoint).imp_left fun k => k.trans same⟩

theorem takeTick_effect (s : State) : LineEffect s (takeTick s) := by
  have posted : ∀ k n d, LineEffect s (post k n d s) := fun _ _ _ => CountsFrame.effect rfl
  unfold takeTick
  split
  · exact .refl s
  split
  · exact posted _ _ _
  rename_i free
  have work : s.work = [] := by
    by_contra left; exact free (.inr left)
  split
  · split
    · exact CountsFrame.effect rfl
    · exact startCycle_effect work
  · rename_i faulted; exact emptyCycle_effect (by rw [faulted]; exact nofun)
  · rename_i released
    split
    · exact emptyCycle_effect (by rw [released]; exact nofun)
    · obtain ⟨transaction, kept, law⟩ := changeSegment_line .waiting s
      have started := startCycle_effect (s := changeSegment .waiting s) (kept.trans work)
      refine ⟨fun before => started.completion ?_, fun before last => ?_⟩
      · exact .of_idle (transaction.trans (before.idle (by rw [released]; exact nofun))) (kept.trans work)
      · exact (started.sends (law before) (by rw [kept, work]; exact nofun)).imp_left fun same => same.trans transaction
  · exact startCycle_effect work

theorem takeHeldTick_effect (s : State) : LineEffect s (takeHeldTick s) := by
  have lowered : CountsFrame s { s with deferredTick := false } := rfl
  unfold takeHeldTick; split
  · exact lowered.then (takeTick_effect _)
  · exact .refl s

theorem becomeReleased_line (s : State) :
    (becomeReleased s).transaction = s.transaction ∧ (becomeReleased s).work = s.work ∧
      (HandOverLaw s → HandOverLaw (becomeReleased s)) ∧ (becomeReleased s).segment = .released := by
  obtain ⟨transaction, work, law⟩ := changeSegment_line .released { s with contention := 0, countdown := 0 }
  exact ⟨transaction, work, law, changeSegment_segment .released { s with contention := 0, countdown := 0 }⟩

theorem releaseSegment_effect (s : State) : LineEffect s (releaseSegment s) := by
  unfold releaseSegment; dsimp only
  split
  · exact CountsFrame.effect rfl
  split
  · rename_i tr flying
    split
    · rename_i a _
      obtain ⟨frame, idle⟩ := nodeOutcome_frame a false { s with transaction := none }
      obtain ⟨transaction, -, law, -⟩ := becomeReleased_line (nodeOutcome a false { s with transaction := none })
      have ends : Ends s (surveyCompletion false (becomeReleased (nodeOutcome a false { s with transaction := none }))) :=
        earlyEnd_ends (transaction.trans idle) fun before => law (frame.law (s := { s with transaction := none }) before)
      exact ⟨fun before => ends.completion (before.inFlight flying), fun before _ => .inr (ends.safe before)⟩
    · obtain ⟨frame, idle⟩ := endTransit_frame .abandoned [] s
      obtain ⟨transaction, work, law, -⟩ := becomeReleased_line (endTransit .abandoned [] s)
      have tick := takeHeldTick_effect (becomeReleased (endTransit .abandoned [] s))
      have kept : (endTransit .abandoned [] s).work = s.work := by rw [frame]
      refine ⟨fun before => tick.completion (.of_idle (transaction.trans idle) ?_), fun before last => .inr ?_⟩
      · exact work.trans (kept.trans (before.inFlight flying).1)
      · exact (tick.sends (law (frame.law before)) (by rw [work, kept]; exact last)).safe (transaction.trans idle)
  · rename_i idle
    obtain ⟨transaction, work, law, segment⟩ := becomeReleased_line s
    split
    · exact ⟨fun _ => surveyCompletion_completion false (transaction.trans idle), fun before _ =>
        .inr ((surveyCompletion_sends false (law before)).safe (transaction.trans idle))⟩
    · have tick := takeHeldTick_effect (resume (becomeReleased s))
      have still : (resume (becomeReleased s)).transaction = none :=
        ((runWork_line _ (by rw [segment]; exact nofun)).1.trans transaction).trans idle
      refine ⟨fun before => tick.completion ?_, fun before last => .inr ?_⟩
      · exact runWork_completion _ (transaction.trans idle) (by rw [work]; exact before.2.1)
      · have resumed : HandOverLaw (resume (becomeReleased s)) :=
          runWork_induction (P := HandOverLaw) (fun _ _ h => h.same rfl rfl) (fun w _ _ h => h.doWork w) _ _ (law before)
        exact (tick.sends resumed (runWork_last (by rw [work]; exact last) _)).safe still

/-! ## Requests -/

theorem answerRequest_effect {code : Byte} {chars : List Byte} {work : List Byte → State → Answer} {s : State}
    (h : ∀ src payload, s.Takes code src payload chars → LineEffect s (work payload s).state) :
    LineEffect s (answerRequest code chars work s) := by
  rcases answerRequest_cases code chars work s with ⟨eq, -⟩ | ⟨src, payload, taken, eq, -⟩
  · rw [eq]; exact .refl s
  · rw [eq]
    obtain ⟨completion, sends⟩ := h src payload taken
    exact ⟨fun law => (completion law).congr rfl, sends⟩

theorem answerAndResume_effect {code : Byte} {chars : List Byte} {work : List Byte → State → Answer} {s : State}
    (h : ∀ payload, ((work payload s).state.work = s.work ∧ (work payload s).state.transaction = s.transaction ∧
      (work payload s).state.segment = s.segment) ∧ (HandOverLaw s → HandOverLaw (work payload s).state)) :
    LineEffect s (answerAndResume code chars work s) := by
  rcases answerRequest_cases code chars work s with ⟨-, eq⟩ | ⟨src, payload, -, -, eq⟩
  · rw [eq]; exact .refl s
  · rw [eq]
    obtain ⟨⟨work, transaction, segment⟩, law⟩ := h payload
    exact resume_effect work transaction segment fun before => (law before).same rfl rfl

/-- The states a request's work leaves that only answers, or reads. -/
theorem withoutData_effect {work : State → Answer} {s : State} (h : LineEffect s (work s).state) (payload : List Byte) :
    LineEffect s (withoutData work payload s).state := by
  rcases withoutData_state work payload s with ⟨-, eq⟩ | eq
  · rw [eq]; exact h
  · rw [eq]; exact .refl s

theorem live_effect {s t u : State} (h : live s t = .next u) (k : LineEffect s t) : LineEffect s u := by
  unfold live at h
  obtain rfl := Host.Outcome.next.inj h
  split
  · exact .refl s
  · exact k

theorem withIndex_group {n : Nat} {work : Fin n → State → Answer} {s : State}
    (h : ∀ i, GroupFrame s (work i s).state) (payload : List Byte) : GroupFrame s (withIndex n work payload s).state := by
  rcases withIndex_state work payload s with ⟨i, eq⟩ | eq
  · rw [eq]; exact h i
  · rw [eq]; exact .refl s

end Sys2Proof.Machine
end

section
/-! PROOFS. O60, from what each command keeps of the work and the transaction; then the STANDBY law (O55). -/

namespace Sys2Proof.Machine

/-! ## Every command -/

theorem collectWork_frame (s : State) : CountsFrame s (collectWork s).state := by
  unfold collectWork
  repeat' split
  all_goals rfl

theorem passWork_frame (payload : List Byte) (s : State) : CountsFrame s (passWork payload s).state := by
  unfold passWork; dsimp only
  repeat' split
  all_goals rfl

theorem CountsFrame.trans {s t u : State} (h : CountsFrame s t) (k : CountsFrame t u) : CountsFrame s u := by
  unfold CountsFrame at *; rw [h] at k; exact k

theorem CountsFrame.transaction {s t : State} (h : CountsFrame s t) : t.transaction = s.transaction := by rw [h]

theorem acknowledgeZones_frame (zs : List (Fin 16)) (s : State) : CountsFrame s (zs.foldl acknowledgeZone s) := by
  induction zs generalizing s with
  | nil => exact .refl s
  | cons z zs ih => exact CountsFrame.trans (by rfl) (ih (acknowledgeZone s z))

theorem acknowledgeWork_frame (payload : List Byte) (s : State) : CountsFrame s (acknowledgeWork payload s).state := by
  have judged : ∀ t : State, CountsFrame t (judgeBeacon t) := fun _ => rfl
  unfold acknowledgeWork; split
  · split
    · exact (acknowledgeZones_frame _ s).trans (judged _)
    · split
      · exact (acknowledgeZones_frame [_] s).trans (judged _)
      · exact .refl s
  · exact .refl s

theorem pushWork_group (payload : List Byte) (s : State) : GroupFrame s (pushWork payload s).state := by
  unfold pushWork; dsimp only
  repeat' split
  all_goals first | exact .refl s | exact (changeStack_groupFrame _ _ s).trans (judgeVent_groupFrame _)

theorem popWork_group (g : Fin 4) (s : State) : GroupFrame s (popWork g s).state := by
  unfold popWork; split
  · exact .refl s
  · exact (changeStack_groupFrame g _ s).trans (judgeVent_groupFrame _)

theorem fanResetWork_group (f : Fin 8) (s : State) : GroupFrame s (fanResetWork f s).state := by
  unfold fanResetWork answerOnly; dsimp only; split
  · exact ((changeFan_fanFrame f _ s).group.trans (recomputeRunSet_groupFrame _ _)).trans (judgeFans_groupFrame _)
  · exact .refl s

theorem requests_law (payload : List Byte) (s : State) (law : HandOverLaw s) :
    HandOverLaw (pushWork payload s).state ∧ HandOverLaw (withIndex 4 popWork payload s).state ∧
      HandOverLaw (withIndex 8 fanResetWork payload s).state :=
  ⟨law.moves (c := .trunkFrameDropped) (s₀ := s) (pushWork_moves payload s),
    law.moves (c := .trunkFrameDropped) (s₀ := s) (withIndex_moves (fun g => popWork_moves g s) payload),
    law.moves (c := .trunkFrameDropped) (s₀ := s) (withIndex_moves (fun f => fanResetWork_moves f s) payload)⟩

theorem GroupFrame.line {s t : State} (h : GroupFrame s t) :
    t.work = s.work ∧ t.transaction = s.transaction ∧ t.segment = s.segment := by rw [h]; exact ⟨rfl, rfl, rfl⟩

theorem readOnly_effect {code : Byte} {chars : List Byte} {work : List Byte → State → Answer} {s : State}
    (h : ∀ payload, (work payload s).state = s) : LineEffect s (answerRequest code chars work s) :=
  answerRequest_effect fun _ payload _ => by rw [h]; exact .refl s

/-- What each command but RUN and NEXT_ATTEMPT keeps. -/
theorem exec_effect {c : Instr} {s t : State} (h : exec c s = .next t) (first : c ≠ .nextAttempt)
    (entry : ∀ dst chars, c ≠ .run dst chars) : LineEffect s t := by
  have done : ∀ {u : State}, Host.Outcome.next (σ := State) (φ := Fault) (ρ := Refusal) u = .next t → u = t := fun is =>
    Host.Outcome.next.inj is
  cases c with
  | resetAsserted => rw [← done h]; exact CountsFrame.effect rfl
  | deviceReset straps rate => rw [← done h]; exact .of_none rfl rfl
  | cycleTick =>
    refine live_effect h ?_
    split
    · exact takeTick_effect s
    · exact .refl s
  | deferredTick =>
    refine live_effect h ?_
    split
    · exact takeHeldTick_effect s
    · exact .refl s
  | frameTransmitted =>
    refine live_effect h (inPhase_effect fun t _ => .inr ?_)
    exact NodeFrame.ends (t := { s with contention := 0 }) rfl (toPhase_ends (p := .awaiting) nofun t _)
  | contentionMismatch => exact live_effect h (inPhase_effect fun t _ => .inr (attemptContended_ends t s))
  | fieldReceptionEnd chars => exact live_effect h (inPhase_effect fun t _ => endReception_ends chars t s)
  | framingError => exact live_effect h (inPhase_effect fun t _ => .inr (attemptFailed_ends t s))
  | replyTimeout => exact live_effect h (inPhase_effect fun t _ => .inr (attemptFailed_ends t s))
  | nextAttempt => exact absurd rfl first
  | overrideExpired =>
    refine live_effect h ?_
    split
    · rename_i g ws waits
      exact counted_effect waits (by rw [expireTop_groupFrame g s]) fun law => law.expireTop g
    · exact .refl s
  | proofTimeout =>
    refine live_effect h ?_
    split
    · rename_i g ws waits
      exact counted_effect waits (by rw [superviseGroup_groupFrame g s]) fun law => law.doWork (.supervise g)
    · exact .refl s
  | holdExpired =>
    refine live_effect h ?_
    split
    · rename_i waits; exact counted_effect waits rfl fun law => law.same rfl rfl
    · exact .refl s
  | warmupCountEnd =>
    refine live_effect h ?_
    split
    · rename_i waits; exact counted_effect waits (by rw [enterRun_frame]) fun _ => enterRun_handOverLaw s
    · exact .refl s
  | faultedCountdownEnd =>
    refine live_effect h ?_
    split
    · rename_i waits
      obtain ⟨transaction, -, law⟩ := changeSegment_line .waiting { s with countdown := 0, contention := 0 }
      exact counted_effect waits transaction law
    · exact .refl s
  | serviceReleaseAsserted =>
    have asserted : CountsFrame s { s with releaseLine := true } := rfl
    rw [← done h]
    split
    · exact asserted.then (releaseSegment_effect _)
    · exact asserted.effect
  | serviceReleaseDeasserted => rw [← done h]; split <;> exact CountsFrame.effect rfl
  | saveCompletion cells =>
    refine live_effect h ?_
    split
    · split <;> exact CountsFrame.effect rfl
    · exact .refl s
  | trunkFrameDropped => rw [← done h]; exact .refl s
  | unknownRequest dst src chars =>
    rw [← done h]; unfold answerUnknown
    split
    · split <;> exact CountsFrame.effect rfl
    · exact .refl s
  | replySent straps rate =>
    refine live_effect h ?_
    split <;> exact CountsFrame.effect rfl
  | status dst chars => rw [← done h]; exact answerRequest_effect fun _ payload _ => withoutData_effect (.refl s) payload
  | readChannel dst chars => rw [← done h]; exact readOnly_effect fun payload => withIndex_readOnly channelData payload s
  | readZone dst chars => rw [← done h]; exact readOnly_effect fun payload => withIndex_readOnly zoneData payload s
  | readGroup dst chars => rw [← done h]; exact readOnly_effect fun payload => withIndex_readOnly groupData payload s
  | readFan dst chars => rw [← done h]; exact readOnly_effect fun payload => withIndex_readOnly fanData payload s
  | readNode dst chars => rw [← done h]; exact readOnly_effect fun payload => readNodeWork_state payload s
  | readTable dst chars => rw [← done h]; exact readOnly_effect fun payload => readTableWork_state payload s
  | writeTable dst chars =>
    rw [← done h]
    refine answerRequest_effect fun _ payload _ => ?_
    rcases writeTableWork_state payload s with eq | ⟨tb, start, n, entries, eq⟩
    · rw [eq]; exact .refl s
    · rw [eq, appendBlock_state]; exact CountsFrame.effect rfl
  | hold dst chars =>
    rw [← done h]
    refine answerAndResume_effect fun payload => ?_
    rcases holdWork_state payload s with eq | ⟨b, eq⟩
    · rw [eq]; exact ⟨⟨rfl, rfl, rfl⟩, id⟩
    · rw [eq]; exact ⟨⟨rfl, rfl, rfl⟩, fun law => law.same rfl rfl⟩
  | discard dst chars =>
    rw [← done h]
    exact answerRequest_effect fun _ payload _ => withoutData_effect (CountsFrame.effect (by rfl)) payload
  | save dst chars =>
    rw [← done h]
    refine answerRequest_effect fun _ payload _ => withoutData_effect (CountsFrame.effect ?_) payload
    unfold saveWork; split <;> rfl
  | run dst chars => exact absurd rfl (entry dst chars)
  | standby dst chars =>
    rw [← done h]
    refine answerRequest_effect fun _ payload _ => withoutData_effect ?_ payload
    unfold standbyWork answerOnly; dsimp only; split
    · exact .refl s
    · have frame := enterStandby_frame s
      exact .of_none (by rw [frame]) (by rw [frame])
  | restart dst chars =>
    rw [← done h]
    split
    · rename_i f _
      have worked : LineEffect s (withoutData restartWork f.payload s).state := by
        refine withoutData_effect ?_ f.payload
        unfold restartWork; split
        · exact .refl s
        · exact .of_none rfl rfl
      obtain ⟨completion, sends⟩ := worked
      exact ⟨fun law => (completion law).congr rfl, sends⟩
    · exact .refl s
  | acknowledge dst chars =>
    rw [← done h]; exact answerRequest_effect fun _ payload _ => (acknowledgeWork_frame payload s).effect
  | pushOverride dst chars =>
    rw [← done h]
    exact answerAndResume_effect fun payload => ⟨(pushWork_group payload s).line, fun law => (requests_law payload s law).1⟩
  | popOverride dst chars =>
    rw [← done h]
    exact answerAndResume_effect fun payload =>
      ⟨(withIndex_group (fun g => popWork_group g s) payload).line, fun law => (requests_law payload s law).2.1⟩
  | fanReset dst chars =>
    rw [← done h]
    exact answerAndResume_effect fun payload =>
      ⟨(withIndex_group (fun f => fanResetWork_group f s) payload).line, fun law => (requests_law payload s law).2.2⟩
  | fetchEvents dst chars =>
    rw [← done h]
    exact answerRequest_effect fun _ payload _ => withoutData_effect (CountsFrame.effect (by rfl)) payload
  | pass dst chars => rw [← done h]; exact answerRequest_effect fun _ payload _ => (passWork_frame payload s).effect
  | collect dst chars =>
    rw [← done h]
    exact answerRequest_effect fun _ payload _ => withoutData_effect (collectWork_frame s).effect payload
  | openingMarkReceived => exact live_effect h (inPhase_effect fun t _ => .inr (toPhase_ends (p := .receiving) nofun t s))
  | checkValueErased =>
    refine live_effect h ?_
    split
    · split <;> exact CountsFrame.effect rfl
    · exact .refl s
  | checkValueWritten =>
    refine live_effect h ?_
    split
    · split <;> exact CountsFrame.effect rfl
    · exact .refl s

theorem answered_frame (code src : Byte) (r : Result) (data : List Byte) (s : State) :
    CountsFrame s (answered code src r data s) := rfl

/-- A RUN request leaves the transaction in flight, and enters WARMUP only from STANDBY. -/
theorem run_cases {dst : Byte} {chars : List Byte} {s t : State} (h : exec (.run dst chars) s = .next t) :
    CountsFrame s t ∨ (s.mode = .standby ∧ CountsFrame (enterWarmup s) t) := by
  obtain rfl := Host.Outcome.next.inj h
  rcases answerRequest_cases 0x58 (dst :: chars) (withoutData runRequestWork) s with ⟨eq, -⟩ | ⟨src, payload, -, eq, -⟩
  · rw [eq]; exact .inl rfl
  · rw [eq]
    rcases withoutData_state runRequestWork payload s with ⟨-, eq⟩ | eq
    · rw [eq]; unfold runRequestWork answerOnly; dsimp only; split
      · exact .inr ⟨‹_›, answered_frame _ _ _ _ _⟩
      · exact .inl (answered_frame _ _ _ _ _)
    · rw [eq]; exact .inl rfl

theorem enterWarmup_transaction (s : State) : (enterWarmup s).transaction = s.transaction := by
  rw [enterWarmup_frame, applyPoint_applyFrame s]

theorem enterWarmup_work (s : State) : (enterWarmup s).work = s.work := by
  rw [enterWarmup_frame, applyPoint_applyFrame s]

/-- Settles O60: dispatch asks for the permit, and nothing after it changes what the permit read. -/
theorem transitDrivesOnlyUnderHandOver : Obligations.TransitDrivesOnlyUnderHandOver := by
  intro s t tr law last h is new first owner phase kind
  unfold step at h
  split at h
  · cases h; exact absurd rfl new
  · rename_i c cs queue
    have other : c ≠ .nextAttempt := fun is => first (by rw [queue, is]; rfl)
    have start : CountsFrame s (s.withPending cs) := rfl
    by_cases entry : ∃ dst chars, c = .run dst chars
    · obtain ⟨dst, chars, rfl⟩ := entry
      rcases run_cases h with frame | ⟨-, frame⟩
      · exact absurd (start.trans frame).transaction new
      · exact absurd (frame.transaction.trans (enterWarmup_transaction _)) new
    · have effect := start.then (exec_effect h other fun dst chars is => entry ⟨dst, chars, is⟩)
      exact (effect.sends law last).elim (fun same => absurd same new) fun safe => safe tr is owner phase kind

end Sys2Proof.Machine
end

section
/-! PROOFS. The STANDBY law over every step (R184, R149, R127), and with it O55. -/

namespace Sys2Proof.Machine

/-! ## The part at rest -/

/-- What STANDBY asks of the records: no stage, no hand-over, no fan that runs, every zone cleared. -/
structure Resting (s : State) : Prop where
  mode : s.mode = .standby
  zones : ∀ z : Fin 16, s.zones[z] = ZoneRecord.cleared .inactive
  groups : ∀ g : Fin 4, s.groups[g].demand = 0 ∧ s.groups[g].floor = 0 ∧ s.groups[g].effective = 0 ∧
    s.groups[g].commanded = 0 ∧ s.groups[g].handOver = false
  fans : ∀ f : Fin 8, s.fans[f].state = .off ∨ s.fans[f].state = .failed

/-- What STANDBY asks of the field port, the completion and the counts. -/
structure PortIdle (s : State) : Prop where
  segment : s.segment = .idle
  transaction : s.transaction = none
  timerOn : s.timerOn = false
  deferredTick : s.deferredTick = false
  work : s.work = []
  warmupLeft : s.warmupLeft = 0

/-- R184, R149, R127: the part in STANDBY. -/
structure Stands (s : State) : Prop where
  resting : Resting s
  port : PortIdle s
  outputs : s.outputs = Outputs.off

theorem Stands.law {s : State} (h : Stands s) : StandbyLaw s := fun _ => by
  obtain ⟨⟨-, zones, groups, fans⟩, ⟨segment, transaction, timerOn, deferredTick, work, warmupLeft⟩, outputs⟩ := h
  exact ⟨segment, transaction, timerOn, deferredTick, work, warmupLeft, zones, groups, fans, outputs⟩

theorem StandbyLaw.stands {s : State} (h : StandbyLaw s) (idle : s.mode = .standby) : Stands s := by
  obtain ⟨segment, transaction, timerOn, deferredTick, work, warmupLeft, zones, groups, fans, outputs⟩ := h idle
  exact ⟨⟨idle, zones, groups, fans⟩, ⟨segment, transaction, timerOn, deferredTick, work, warmupLeft⟩, outputs⟩

/-- A state that differs in nothing the law reads. -/
def StandsFrame (s t : State) : Prop :=
  t = { s with pending := t.pending, draws := t.draws, inReset := t.inReset, tables := t.tables, chains := t.chains
               channels := t.channels, cycleCount := t.cycleCount, contention := t.contention, countdown := t.countdown
               dispatched := t.dispatched, releaseLine := t.releaseLine, pollList := t.pollList, changes := t.changes
               hold := t.hold, holdCount := t.holdCount, transits := t.transits, transitCount := t.transitCount
               trunkPort := t.trunkPort, trunkAddress := t.trunkAddress, trunkRate := t.trunkRate, store := t.store
               storeValid := t.storeValid, save := t.save, events := t.events, lost := t.lost }

theorem Resting.same {s t : State} (h : Resting s) (mode : t.mode = s.mode) (zones : t.zones = s.zones)
    (groups : t.groups = s.groups) (fans : t.fans = s.fans) : Resting t :=
  ⟨mode.trans h.mode, by rw [zones]; exact h.zones, by rw [groups]; exact h.groups, by rw [fans]; exact h.fans⟩

theorem Stands.frame {s t : State} (h : Stands s) (frame : StandsFrame s t) : Stands t := by
  obtain ⟨resting, port, outputs⟩ := h
  refine ⟨resting.same (by rw [frame]) (by rw [frame]) (by rw [frame]) (by rw [frame]), ?_, by rw [frame]; exact outputs⟩
  rw [frame]
  exact ⟨port.segment, port.transaction, port.timerOn, port.deferredTick, port.work, port.warmupLeft⟩

theorem PortIdle.group {s t : State} (h : PortIdle s) (frame : GroupFrame s t) : PortIdle t := by
  rw [frame]; exact ⟨h.segment, h.transaction, h.timerOn, h.deferredTick, h.work, h.warmupLeft⟩

/-! ## The outputs at rest -/

/-- R127: at rest no output's function is energized. -/
theorem Resting.functions {s : State} (h : Resting s) :
    chargeFunction s = false ∧ ventLevel s = false ∧ beaconFunction s = false ∧ healthyFunction s = false := by
  have off : s.mode ≠ .run := by rw [h.mode]; exact nofun
  obtain ⟨charge, -, healthy⟩ := functions_outside_run off
  refine ⟨charge, ventLevel_outside_run off, ?_, healthy⟩
  rw [← Bool.not_eq_true, beaconFunction_iff]
  rintro ⟨z, alarm⟩
  rw [h.zones z] at alarm
  revert alarm; simp [ZoneRecord.cleared]

theorem Resting.judgeAll {s : State} (h : Resting s) : Resting (judgeAll s) ∧ (judgeAll s).outputs = Outputs.off := by
  obtain ⟨charge, vent, beacon, healthy⟩ := h.functions
  refine ⟨h.same rfl rfl rfl rfl, ?_⟩
  unfold Machine.judgeAll; rw [charge, vent, beacon, healthy]; rfl

/-- Each judgement at rest leaves the outputs off. -/
theorem Stands.judged {s : State} (h : Stands s) :
    Stands (judgeAlarm s) ∧ Stands (judgeBeacon s) ∧ Stands (judgeVent s) ∧ Stands (judgeFans s) ∧ Stands (judgeHealthy s) := by
  obtain ⟨charge, vent, beacon, healthy⟩ := h.resting.functions
  have with_ : ∀ o, o = Outputs.off → Stands { s with outputs := o } := fun o off =>
    ⟨h.resting.same rfl rfl rfl rfl, ⟨h.port.segment, h.port.transaction, h.port.timerOn, h.port.deferredTick, h.port.work,
      h.port.warmupLeft⟩, off⟩
  refine ⟨with_ _ ?_, with_ _ ?_, with_ _ ?_, with_ _ ?_, with_ _ ?_⟩
  · rw [h.outputs, charge, beacon, healthy]; rfl
  · rw [h.outputs, beacon]; rfl
  · rw [h.outputs, vent]; rfl
  · rw [h.outputs, vent, healthy]; rfl
  · rw [h.outputs, healthy]; rfl

/-! ## The groups and fans at rest -/

theorem Resting.moved {s : State} (h : Resting s) (g : Fin 4) (old new : List (Fin 8)) (f : Fin 8) :
    movedFan s g old new f = s.fans[f] := by
  obtain ⟨-, -, -, commanded, -⟩ := h.groups g
  unfold movedFan
  rw [if_neg, if_neg]
  · rintro ⟨-, -, -, -, above⟩; rw [commanded] at above; exact absurd above (Nat.lt_irrefl 0)
  · rintro ⟨-, -, runs⟩
    rcases h.fans f with off | failed
    · rw [off] at runs; exact absurd runs nofun
    · rw [failed] at runs; exact absurd runs nofun

/-- R106: at rest a recomputed run set moves no fan. -/
theorem Resting.recomputeRunSet {s : State} (h : Resting s) (g : Fin 4) : Resting (recomputeRunSet g s) := by
  have frame := recomputeRunSet_groupFrame g s
  refine ⟨frame.mode.trans h.mode, fun z => by rw [frame]; exact h.zones z, fun k => ?_, fun f => ?_⟩
  · have kept := recomputeRunSet_kept g s k
    unfold StagesKept at kept
    rw [kept]; exact h.groups k
  · rw [(recomputeRunSet_fans g s).1 f, h.moved]; exact h.fans f

theorem Resting.setGroup {s : State} (h : Resting s) (g : Fin 4) {r : GroupRecord} (kept : StagesKept s.groups[g] r) :
    Resting (setGroup g r s) := by
  refine ⟨h.mode, h.zones, fun k => ?_, h.fans⟩
  rw [groups_setGroup]; split
  · unfold StagesKept at kept; rw [kept]; exact h.groups g
  · exact h.groups k

theorem Stands.setGroup {s : State} (h : Stands s) (g : Fin 4) {r : GroupRecord} (kept : StagesKept s.groups[g] r) :
    Stands (setGroup g r s) :=
  ⟨h.resting.setGroup g kept, h.port.group (setGroup_groupFrame g r s), h.outputs⟩

theorem Stands.post {s : State} (h : Stands s) (k : EventKind) (n : Nat) (d : Half) : Stands (post k n d s) := h.frame rfl

theorem Stands.changeCondition {s : State} (h : Stands s) (g : Fin 4) : Stands (changeCondition g s) := by
  unfold Machine.changeCondition; dsimp only; split
  · exact h
  · exact (((h.setGroup g (by rfl)).post _ _ _).judged).1

theorem Stands.actOnMembers {s : State} (h : Stands s) (g : Fin 4) : Stands (actOnMembers g s) := by
  have selected := h.setGroup g (r := { s.groups[g] with runSet := selectRunSet s.tables s.fans g }) (by rfl)
  have frame : FanFrame (Machine.setGroup g { s.groups[g] with runSet := selectRunSet s.tables s.fans g } s)
      (Machine.actOnMembers g s) := forEachFree_fanFrame (fun f => actOnMember_fanFrame g _ f) _
  have fans : (Machine.actOnMembers g s).fans = s.fans := by
    ext1 f hf
    exact ((actOnMembers_fans g s).1 ⟨f, hf⟩).trans (h.resting.moved g _ _ ⟨f, hf⟩)
  refine ⟨selected.resting.same (by rw [frame]) (by rw [frame]) (by rw [frame]) fans, selected.port.group frame.group, ?_⟩
  rw [frame]; exact h.outputs

theorem Stands.recomputeRunSet {s : State} (h : Stands s) (g : Fin 4) : Stands (recomputeRunSet g s) :=
  (h.actOnMembers g).changeCondition g

/-- R90, R91: at rest a changed stack calls for no stage and no hand-over. -/
theorem Stands.changeStack {s : State} (h : Stands s) (g : Fin 4) (cs : List Context) : Stands (changeStack g cs s) := by
  have frame := changeStack_groupFrame g cs s
  have groups : ∀ k : Fin 4, (Machine.changeStack g cs s).groups[k].demand = 0 ∧
      (Machine.changeStack g cs s).groups[k].floor = 0 ∧ (Machine.changeStack g cs s).groups[k].effective = 0 ∧
      (Machine.changeStack g cs s).groups[k].commanded = 0 ∧ (Machine.changeStack g cs s).groups[k].handOver = false := fun k => by
    by_cases own : k = g
    · subst own
      obtain ⟨demand, floor, -, commanded, -⟩ := h.resting.groups k
      rw [changeStack_own]
      refine ⟨demand, floor, if_pos h.resting.mode, commanded, ?_⟩
      show handOverDue s.mode _ = false
      unfold handOverDue; rw [h.resting.mode]; rfl
    · rw [changeStack_other own]; exact h.resting.groups k
  obtain ⟨-, -, handed⟩ := changeStack_judged g cs s
  refine ⟨⟨frame.mode.trans h.resting.mode, fun z => by rw [frame]; exact h.resting.zones z, groups, fun f => ?_⟩,
    h.port.group frame, (changeStack_stageFrame g cs s).outputs.trans h.outputs⟩
  rw [handed]; split
  · rename_i own
    obtain ⟨-, -, -, -, after⟩ := groups g
    obtain ⟨-, -, -, -, before⟩ := h.resting.groups g
    rw [handedFan_same own (after.trans before.symm)]; exact h.resting.fans f
  · exact h.resting.fans f

theorem Stands.fanReset {s : State} (h : Stands s) (f : Fin 8) : Stands (fanResetWork f s).state := by
  have cleared : Stands (changeFan f { s.fans[f] with state := .off, reason := .none } s) := by
    have frame := changeFan_fanFrame f { s.fans[f] with state := .off, reason := .none } s
    refine ⟨⟨by rw [frame]; exact h.resting.mode, fun z => by rw [frame]; exact h.resting.zones z, fun g => by
      rw [frame]; exact h.resting.groups g, fun k => ?_⟩, h.port.group frame.group, by rw [frame]; exact h.outputs⟩
    rw [changeFan_fans]
    split
    · exact .inl rfl
    · exact h.resting.fans k
  unfold fanResetWork answerOnly; dsimp only; split
  · exact (cleared.recomputeRunSet _).judged.2.2.2.1
  · exact h

/-- R53, R73: at rest no zone has anything to acknowledge. -/
theorem Stands.acknowledgeZone {s : State} (h : Stands s) (z : Fin 16) : Stands (acknowledgeZone s z) := by
  have zones : ∀ y : Fin 16, (Machine.acknowledgeZone s z).zones[y] = ZoneRecord.cleared .inactive := fun y => by
    show (setZone z _ s).zones[y] = _
    rw [zones_setZone]; split
    · rw [h.resting.zones z]; rfl
    · exact h.resting.zones y
  exact ⟨⟨h.resting.mode, zones, h.resting.groups, h.resting.fans⟩, ⟨h.port.segment, h.port.transaction, h.port.timerOn,
    h.port.deferredTick, h.port.work, h.port.warmupLeft⟩, h.outputs⟩

theorem Stands.acknowledge {s : State} (h : Stands s) (payload : List Byte) : Stands (acknowledgeWork payload s).state := by
  have all : ∀ (zs : List (Fin 16)) (t : State), Stands t → Stands (zs.foldl Machine.acknowledgeZone t) := by
    intro zs
    induction zs with
    | nil => exact fun _ k => k
    | cons z zs ih => exact fun t k => ih _ (k.acknowledgeZone z)
  unfold acknowledgeWork; split
  · split
    · exact (all _ s h).judged.2.1
    · split
      · exact (h.acknowledgeZone _).judged.2.1
      · exact h
  · exact h

/-! ## The entries -/

theorem restartRuntime_stands (s : State) : Stands (restartRuntime s) := by
  refine ⟨⟨rfl, fun z => ?_, fun g => ?_, fun f => ?_⟩, ⟨rfl, rfl, rfl, rfl, rfl, rfl⟩, rfl⟩
  · show (Vector.replicate 16 (ZoneRecord.cleared .inactive))[z] = _
    simp only [Fin.getElem_fin, Vector.getElem_replicate]
  · have groups : (restartRuntime s).groups =
        computedRunSets s.tables (Vector.replicate 8 FanRecord.cleared) (Vector.replicate 4 GroupRecord.cleared) := rfl
    rw [groups]; unfold computedRunSets
    simp only [Fin.getElem_fin, Vector.getElem_ofFn, Vector.getElem_replicate]
    exact ⟨rfl, rfl, rfl, rfl, rfl⟩
  · show (Vector.replicate 8 FanRecord.cleared)[f].state = _ ∨ _
    simp only [Fin.getElem_fin, Vector.getElem_replicate]; exact .inl rfl

/-- R99, R117, R66: the records at STANDBY entry. -/
theorem Resting.of_entry {t : State} (mode : t.mode = .standby) (groups : Vector GroupRecord 4) (fans : Vector FanRecord 8) :
    Resting { t with zones := Vector.replicate 16 (ZoneRecord.cleared .inactive)
                     groups := Vector.ofFn fun g => standbyGroup groups[g]
                     fans := Vector.ofFn fun f => standbyFan fans[f] } := by
  refine ⟨mode, fun z => ?_, fun g => ?_, fun f => ?_⟩
  · simp only [Fin.getElem_fin, Vector.getElem_replicate]
  · simp only [Fin.getElem_fin, Vector.getElem_ofFn]; exact ⟨rfl, rfl, rfl, rfl, rfl⟩
  · simp only [Fin.getElem_fin, Vector.getElem_ofFn]
    unfold standbyFan; dsimp only
    split
    · exact .inl rfl
    · exact .inr rfl

theorem enterStandby_stands (s : State) : Stands (enterStandby s) := by
  have recomputed : ∀ u : State, Resting u → Resting (forEachGroup (List.finRange 4) Machine.recomputeRunSet u) := fun u h =>
    forEachGroup_induction (P := Resting) h (fun _ _ k => k.same rfl rfl rfl rfl) fun g _ _ k => k.recomputeRunSet g
  have mode : (standbyPort (changeMode .standby { s with warmupLeft := 0 })).mode = .standby := by
    have frame := changeSegment_frame .idle { changeMode .standby { s with warmupLeft := 0 } with
      transaction := none, timerOn := false, deferredTick := false, countdown := 0, contention := 0, work := []
      pollList := (changeMode .standby { s with warmupLeft := 0 }).pollList.map standbyNode
      transits := (changeMode .standby { s with warmupLeft := 0 }).transits.map cancelEntry }
    unfold SegmentFrame at frame
    show (changeSegment .idle _).mode = _
    rw [frame]; rfl
  have entered := recomputed _ (Resting.of_entry (t := { standbyPort (changeMode .standby { s with warmupLeft := 0 }) with
    channels := restartedChannels (standbyPort (changeMode .standby { s with warmupLeft := 0 })).tables }) mode
    (standbyPort (changeMode .standby { s with warmupLeft := 0 })).groups
    (standbyPort (changeMode .standby { s with warmupLeft := 0 })).fans)
  obtain ⟨resting, outputs⟩ := entered.judgeAll
  refine ⟨resting, ?_, outputs⟩
  have frame := enterStandby_frame s
  constructor <;> rw [frame]

/-! ## Every command -/

/-- A command taken in STANDBY that stays there leaves the part standing. -/
def StaysStanding (t : State) : Prop := t.mode = .standby → Stands t

theorem live_stands {s t u : State} (h : live s t = .next u) (stands : Stands s) (k : StaysStanding t) : StaysStanding u := by
  unfold live at h
  obtain rfl := Host.Outcome.next.inj h
  split
  · exact fun _ => stands
  · exact k

theorem answerRequest_stands {code : Byte} {chars : List Byte} {work : List Byte → State → Answer} {s : State}
    (stands : Stands s) (h : ∀ payload, StaysStanding (work payload s).state) :
    StaysStanding (answerRequest code chars work s) := by
  rcases answerRequest_cases code chars work s with ⟨eq, -⟩ | ⟨src, payload, -, eq, -⟩
  · rw [eq]; exact fun _ => stands
  · rw [eq]; exact fun mode => (h payload mode).frame rfl

theorem answerAndResume_stands {code : Byte} {chars : List Byte} {work : List Byte → State → Answer} {s : State}
    (stands : Stands s) (h : ∀ payload, Stands (work payload s).state) :
    Stands (answerAndResume code chars work s) := by
  rcases answerRequest_cases code chars work s with ⟨-, eq⟩ | ⟨src, payload, -, -, eq⟩
  · rw [eq]; exact stands
  · have answered : Stands (answered code src (work payload s).result (work payload s).data (work payload s).state) :=
      (h payload).frame rfl
    rw [eq]; unfold resume
    rw [answered.port.work]
    exact ⟨answered.resting.same rfl rfl rfl rfl, ⟨answered.port.segment, answered.port.transaction, answered.port.timerOn,
      answered.port.deferredTick, rfl, answered.port.warmupLeft⟩, answered.outputs⟩

theorem withoutData_stands {work : State → Answer} {s : State} (stands : Stands s) (h : StaysStanding (work s).state)
    (payload : List Byte) : StaysStanding (withoutData work payload s).state := by
  rcases withoutData_state work payload s with ⟨-, eq⟩ | eq
  · rw [eq]; exact h
  · rw [eq]; exact fun _ => stands

theorem withIndex_stands {n : Nat} {work : Fin n → State → Answer} {s : State} (stands : Stands s)
    (h : ∀ i, Stands (work i s).state) (payload : List Byte) : Stands (withIndex n work payload s).state := by
  rcases withIndex_state work payload s with ⟨i, eq⟩ | eq
  · rw [eq]; exact h i
  · rw [eq]; exact stands

theorem inPhase_stands {p : Phase} {f : Transaction → State → State} {s : State} (stands : Stands s) :
    StaysStanding (inPhase p f s) := fun _ => by
  unfold inPhase; rw [stands.port.transaction]; exact stands

theorem waitingCount_stands {s : State} (stands : Stands s) : waitingCount s = none := by
  unfold waitingCount; rw [stands.port.work]

theorem completeSave_stands {s : State} (stands : Stands s) (v : Save) (st : Store) : Stands (completeSave v st s) := by
  have stored : ∀ k ok, Stands { post k 0 0 { s with store := st, storeValid := ok } with save := none } := fun _ _ =>
    stands.frame rfl
  exact (stored _ _).judged.2.2.2.2

theorem pushWork_stands {s : State} (stands : Stands s) (payload : List Byte) : Stands (pushWork payload s).state := by
  have pushed : ∀ g cs, Stands (judgeVent (changeStack g cs s)) := fun g cs => (stands.changeStack g cs).judged.2.2.1
  unfold pushWork; dsimp only
  repeat' split
  all_goals first | exact stands | exact pushed _ _

theorem popWork_stands {s : State} (stands : Stands s) (g : Fin 4) : Stands (popWork g s).state := by
  unfold popWork; split
  · exact stands
  · exact (stands.changeStack g _).judged.2.2.1

theorem exec_stands {c : Instr} {s t : State} (h : exec c s = .next t) (stands : Stands s) : StaysStanding t := by
  have done : ∀ {u : State}, Host.Outcome.next (σ := State) (φ := Fault) (ρ := Refusal) u = .next t → u = t := fun is =>
    Host.Outcome.next.inj is
  have self : StaysStanding s := fun _ => stands
  have framed : ∀ {u : State}, StandsFrame s u → StaysStanding u := fun frame _ => stands.frame frame
  have reads : ∀ {code : Byte} {chars : List Byte} {work : List Byte → State → Answer}, (∀ payload, (work payload s).state = s) →
      StaysStanding (answerRequest code chars work s) := fun same =>
    answerRequest_stands stands fun payload => by rw [same]; exact self
  have calm : releaseActed s = false := by unfold releaseActed; rw [stands.resting.mode]; rfl
  cases c with
  | resetAsserted =>
    rw [← done h]
    exact fun _ => ⟨stands.resting.same rfl rfl rfl rfl, ⟨stands.port.segment, stands.port.transaction, stands.port.timerOn,
      stands.port.deferredTick, stands.port.work, stands.port.warmupLeft⟩, rfl⟩
  | deviceReset straps rate => rw [← done h]; exact fun _ => restartRuntime_stands _
  | cycleTick =>
    refine live_stands h stands ?_
    rw [stands.port.timerOn]; exact self
  | deferredTick =>
    refine live_stands h stands ?_
    unfold heldTickDue; rw [stands.port.deferredTick]; exact self
  | frameTransmitted => exact live_stands h stands (inPhase_stands stands)
  | contentionMismatch => exact live_stands h stands (inPhase_stands stands)
  | fieldReceptionEnd chars => exact live_stands h stands (inPhase_stands stands)
  | framingError => exact live_stands h stands (inPhase_stands stands)
  | replyTimeout => exact live_stands h stands (inPhase_stands stands)
  | nextAttempt => exact live_stands h stands (inPhase_stands stands)
  | openingMarkReceived => exact live_stands h stands (inPhase_stands stands)
  | overrideExpired =>
    refine live_stands h stands ?_
    rw [waitingCount_stands stands]; exact self
  | proofTimeout =>
    refine live_stands h stands ?_
    rw [waitingCount_stands stands]; exact self
  | holdExpired =>
    refine live_stands h stands ?_
    rw [waitingCount_stands stands]; exact self
  | warmupCountEnd =>
    refine live_stands h stands ?_
    rw [waitingCount_stands stands]; exact self
  | faultedCountdownEnd =>
    refine live_stands h stands ?_
    rw [waitingCount_stands stands]; exact self
  | serviceReleaseAsserted =>
    rw [← done h, calm, Bool.and_false, Bool.false_and]; exact framed rfl
  | serviceReleaseDeasserted =>
    rw [← done h, calm, Bool.and_false, Bool.false_and, Bool.false_and]; exact framed rfl
  | saveCompletion cells =>
    refine live_stands h stands ?_
    split
    · split
      · exact fun _ => completeSave_stands stands _ _
      · exact self
    · exact self
  | trunkFrameDropped => rw [← done h]; exact self
  | unknownRequest dst src chars =>
    rw [← done h]; unfold answerUnknown
    split
    · split
      · exact self
      · exact framed rfl
    · exact self
  | replySent straps rate =>
    refine live_stands h stands ?_
    split
    · exact framed rfl
    · exact framed rfl
    · exact self
  | status dst chars =>
    rw [← done h]; exact answerRequest_stands stands fun payload => withoutData_stands stands self payload
  | readChannel dst chars => rw [← done h]; exact reads fun payload => withIndex_readOnly channelData payload s
  | readZone dst chars => rw [← done h]; exact reads fun payload => withIndex_readOnly zoneData payload s
  | readGroup dst chars => rw [← done h]; exact reads fun payload => withIndex_readOnly groupData payload s
  | readFan dst chars => rw [← done h]; exact reads fun payload => withIndex_readOnly fanData payload s
  | readNode dst chars => rw [← done h]; exact reads fun payload => readNodeWork_state payload s
  | readTable dst chars => rw [← done h]; exact reads fun payload => readTableWork_state payload s
  | writeTable dst chars =>
    rw [← done h]
    refine answerRequest_stands stands fun payload => ?_
    rcases writeTableWork_state payload s with eq | ⟨tb, start, n, entries, eq⟩
    · rw [eq]; exact self
    · rw [eq, appendBlock_state]; exact framed rfl
  | hold dst chars =>
    rw [← done h]
    refine fun _ => answerAndResume_stands stands fun payload => ?_
    rcases holdWork_state payload s with eq | ⟨b, eq⟩
    · rw [eq]; exact stands
    · rw [eq]; exact stands.frame rfl
  | discard dst chars =>
    rw [← done h]
    exact answerRequest_stands stands fun payload => withoutData_stands stands (framed (by rfl)) payload
  | save dst chars =>
    rw [← done h]
    refine answerRequest_stands stands fun payload => withoutData_stands stands (framed ?_) payload
    unfold saveWork; split <;> rfl
  | run dst chars =>
    rw [← done h]
    refine answerRequest_stands stands fun payload => withoutData_stands stands (fun mode => ?_) payload
    unfold runRequestWork answerOnly at mode; dsimp only at mode
    rw [if_pos stands.resting.mode, enterWarmup_frame] at mode; cases mode
  | standby dst chars =>
    rw [← done h]
    refine answerRequest_stands stands fun payload => withoutData_stands stands ?_ payload
    unfold standbyWork answerOnly; dsimp only
    rw [if_pos stands.resting.mode]; exact self
  | restart dst chars =>
    rw [← done h]
    split
    · rename_i f _
      have worked : StaysStanding (withoutData restartWork f.payload s).state := by
        refine withoutData_stands stands ?_ f.payload
        unfold restartWork; split
        · exact self
        · exact fun _ => restartRuntime_stands s
      exact fun mode => (worked mode).frame rfl
    · exact self
  | acknowledge dst chars =>
    rw [← done h]; exact answerRequest_stands stands fun payload _ => stands.acknowledge payload
  | pushOverride dst chars =>
    rw [← done h]; exact fun _ => answerAndResume_stands stands fun payload => pushWork_stands stands payload
  | popOverride dst chars =>
    rw [← done h]
    exact fun _ => answerAndResume_stands stands fun payload => withIndex_stands stands (popWork_stands stands) payload
  | fanReset dst chars =>
    rw [← done h]
    exact fun _ => answerAndResume_stands stands fun payload => withIndex_stands stands stands.fanReset payload
  | fetchEvents dst chars =>
    rw [← done h]
    exact answerRequest_stands stands fun payload => withoutData_stands stands (framed (by rfl)) payload
  | pass dst chars =>
    rw [← done h]
    refine answerRequest_stands stands fun payload => framed ?_
    unfold passWork; dsimp only
    repeat' split
    all_goals rfl
  | collect dst chars =>
    rw [← done h]
    refine answerRequest_stands stands fun payload => withoutData_stands stands (framed ?_) payload
    unfold collectWork
    repeat' split
    all_goals rfl
  | checkValueErased =>
    refine live_stands h stands (framed ?_)
    split
    · split <;> rfl
    · rfl
  | checkValueWritten =>
    refine live_stands h stands (framed ?_)
    split
    · split <;> rfl
    · rfl

/-- R184: a command that ends in STANDBY and did not begin there has entered it. -/
theorem exec_enters {c : Instr} {s t : State} (h : exec c s = .next t) (active : s.mode ≠ .standby)
    (idle : t.mode = .standby) : Stands t := by
  rcases exec_mode h with same | ⟨-, warm, -⟩ | ⟨-, ran, -⟩ | ⟨-, taken | taken | ⟨straps, rate, rfl⟩⟩
  · exact absurd (same.symm.trans idle) active
  · rw [idle] at warm; cases warm
  · rw [idle] at ran; cases ran
  · obtain ⟨dst, chars, src, rfl, taken⟩ := taken
    obtain rfl := Host.Outcome.next.inj h
    rw [answerRequest_taken taken]
    have entered : Stands (withoutData standbyWork [] s).state := by
      show Stands (if s.mode = .standby then s else enterStandby s)
      rw [if_neg active]; exact enterStandby_stands s
    exact entered.frame rfl
  · obtain ⟨dst, chars, src, rfl, taken⟩ := taken
    obtain rfl := Host.Outcome.next.inj h
    rw [takes_of taken] at idle ⊢
    change (withoutData restartWork [] s).state.mode = .standby at idle
    have entered : Stands (withoutData restartWork [] s).state := by
      change (restartWork s).state.mode = .standby at idle
      show Stands (restartWork s).state
      unfold restartWork at idle ⊢
      split
      · rename_i busy
        rw [if_pos busy] at idle; exact absurd idle active
      · exact restartRuntime_stands s
    exact entered.frame rfl
  · obtain rfl := Host.Outcome.next.inj h
    exact restartRuntime_stands _

theorem inPhase_completion {s : State} (law : CompletionLaw s) :
    CompletionLaw (inPhase .gap (toPhase .sending) s) := by
  unfold inPhase; split
  · rename_i tr is
    split
    · exact .of_inFlight (law.inFlight is)
    · exact law
  · exact law

/-- Settles O55: by the modes a command begins and ends in, and by what it keeps of the work and the transaction. -/
theorem everyStepKeepsTheStandbyAndCompletionLaws : Obligations.EveryStepKeepsTheStandbyAndCompletionLaws := by
  intro s t standby h
  unfold step at h
  split at h
  · cases h; exact ⟨standby, id⟩
  rename_i c cs queue
  have start : CountsFrame s (s.withPending cs) := rfl
  refine ⟨fun idle => ?_, fun law => ?_⟩
  · by_cases was : s.mode = .standby
    · exact (exec_stands h ((standby.stands was).frame (by rfl)) idle).law idle
    · exact (exec_enters h was idle).law idle
  · have law' : CompletionLaw (s.withPending cs) := law.congr start
    by_cases next : c = .nextAttempt
    · subst next
      obtain rfl := Host.Outcome.next.inj h
      split
      · exact law'
      · exact inPhase_completion law'
    by_cases entry : ∃ dst chars, c = .run dst chars
    · obtain ⟨dst, chars, rfl⟩ := entry
      rcases run_cases h with frame | ⟨idle, frame⟩
      · exact law'.congr frame
      · have stands : Stands (s.withPending cs) := (standby.stands idle).frame (by rfl)
        have entered : CompletionLaw (enterWarmup (s.withPending cs)) :=
          .of_idle ((enterWarmup_transaction _).trans stands.port.transaction) ((enterWarmup_work _).trans stands.port.work)
        exact entered.congr frame
    · exact (exec_effect h next fun dst chars is => entry ⟨dst, chars, is⟩).completion law'

end Sys2Proof.Machine
end

section
/-! PROOFS. The step itself, reset and RESTART, the store, the posts, and the phases of an attempt (O1, O3 to O6, O10, O22, O23,
O35, O48). -/

namespace Sys2Proof.Machine

/-! ## The step -/

/-- Settles O1. -/
theorem stepRunsTheFrontCommand : Obligations.StepRunsTheFrontCommand := by
  intro s c cs queue
  unfold step; rw [queue]; rfl

/-- A command of the part, while no reset lasts, has its effect. -/
theorem live_awake {s : State} (awake : s.inReset = false) (t : State) : live s t = .next t := by
  unfold live; rw [awake]; rfl

theorem live_held {s : State} (held : s.inReset = true) (t : State) : live s t = .next s := by
  unfold live; rw [held]; rfl

/-! ## Posts -/

/-- Settles O48: the three cases of a post, each for its own condition on the newest record and the room. -/
theorem postsCoalesceAppendOrAreLost : Obligations.PostsCoalesceAppendOrAreLost := by
  intro s k subject detail e same
  have posted : ∀ r : List EventRecord × Nat, postInto s.events s.lost e = r →
      post k subject detail s = { s with events := r.1, lost := r.2 } := fun r is => by rw [← is]; rfl
  rcases postInto_cases s.events s.lost e with ⟨p, r, queue, like, eq⟩ | ⟨unlike, room, eq⟩ | ⟨unlike, full, eq⟩
  · refine ⟨fun q r' is _ => ?_, fun other => absurd like (other p r queue), fun other => absurd like (other p r queue)⟩
    obtain ⟨rfl, rfl⟩ : p = q ∧ r = r' := by simpa using queue.symm.trans is
    exact posted _ eq
  · exact ⟨fun q r is like => absurd like (unlike q r is), fun _ _ => posted _ eq, fun _ full => absurd room full.not_gt⟩
  · exact ⟨fun q r is like => absurd like (unlike q r is), fun _ room => absurd room full.not_gt, fun _ _ => posted _ eq⟩

/-! ## Reset and RESTART -/

/-- R188, R189: every record at its reset value for the tables and chains as they stand. -/
theorem restartRuntime_eq (s : State) :
    restartRuntime s = { State.reset with
      pending := s.pending, draws := s.draws, tables := s.tables, chains := s.chains, channels := restartedChannels s.tables
      groups := computedRunSets s.tables (Vector.replicate 8 FanRecord.cleared) (Vector.replicate 4 GroupRecord.cleared)
      pollList := rebuiltList s.tables [], store := s.store, storeValid := s.storeValid, trunkPort := s.trunkPort
      trunkAddress := s.trunkAddress, trunkRate := s.trunkRate, releaseLine := s.releaseLine
      events := [{ kind := .started, subject := 0, detail := detailOf 0 s.storeValid.toNat, stamp := 0, repeats := 1 }] } := rfl

/-- R152, R37, R117, R131: the default tables bind nothing. -/
theorem default_records :
    builtChains Tables.default.bindings = Vector.replicate 16 [] ∧
      restartedChannels Tables.default = Vector.replicate 64 (ChannelRecord.restarted .disabled) ∧
      computedRunSets Tables.default (Vector.replicate 8 FanRecord.cleared) (Vector.replicate 4 GroupRecord.cleared) =
        Vector.replicate 4 GroupRecord.cleared ∧
      rebuiltList Tables.default [] = [] := by
  refine ⟨by decide, by decide, by decide, by decide⟩

theorem loadStore_fails {st : Store} (fails : st.check = none ∨ ∃ c, st.check = some c ∧ c ≠ crc st.image) :
    loadStore st = none := by
  unfold loadStore
  rcases fails with none | ⟨c, is, other⟩
  · rw [none]
  · rw [is]; exact if_neg (Ne.symm other)

/-- Settles O6: nothing is loaded, and the default tables bind nothing. -/
theorem deviceResetWithAFailingStore : Obligations.DeviceResetWithAFailingStore := by
  intro s straps rate fails
  obtain ⟨chains, channels, groups, pollList⟩ := default_records
  have loaded : loadTables (readStraps straps rate s) = { readStraps straps rate s with
      tables := Tables.default, chains := Vector.replicate 16 [], storeValid := false } := by
    unfold loadTables
    rw [show loadStore (readStraps straps rate s).store = none from loadStore_fails fails, chains]
  show Host.Outcome.next (restartRuntime (loadTables (readStraps straps rate s))) = _
  rw [loaded, restartRuntime_eq]
  dsimp only
  rw [channels, groups, pollList]; rfl

/-- Settles O3. -/
theorem resetStateAsTheManualGivesIt : Obligations.ResetStateAsTheManualGivesIt := by
  refine ⟨rfl, rfl, rfl, fun b => ?_, fun i => ?_, fun z => ?_, fun g => ?_, fun f => ?_, rfl, rfl, rfl, rfl, rfl, rfl, rfl, rfl,
    rfl, rfl, rfl, rfl, rfl, rfl, rfl, rfl, rfl, rfl, rfl⟩
  · exact Vector.getElem_replicate b.isLt
  · exact Vector.getElem_replicate i.isLt
  · exact Vector.getElem_replicate z.isLt
  · exact Vector.getElem_replicate g.isLt
  · exact Vector.getElem_replicate f.isLt

theorem reset_eq : restartRuntime State.reset = State.reset := by
  obtain ⟨-, channels, groups, pollList⟩ := default_records
  have tables : State.reset.tables = Tables.default := rfl
  rw [restartRuntime_eq, tables, channels, groups, pollList]; rfl

theorem default_binds {i : Fin 64} : Tables.default.bindings[i].valid ≠ true := by
  have all : ∀ i : Fin 64, Tables.default.bindings[i].valid = false := by decide
  rw [all i]; exact nofun

theorem reset_keysLaw : KeysLaw State.reset := by
  refine ⟨fun i _ valid => absurd valid default_binds, fun b => ?_⟩
  have empty : State.reset.chains[b] = [] := Vector.getElem_replicate b.isLt
  rw [empty]
  exact ⟨Nat.zero_le _, List.nodup_nil, fun i => iff_of_false nofun fun bound => absurd bound.1 default_binds⟩

theorem reset_filteredLaw : FilteredLaw State.reset := fun i => by
  have cleared : State.reset.channels[i] = ChannelRecord.restarted .disabled := Vector.getElem_replicate i.isLt
  rw [cleared]; exact ⟨Nat.zero_le _, Nat.zero_le _⟩

/-- Settles O4: a part just reset is a part just restarted. -/
theorem lawsHoldAtReset : Obligations.LawsHoldAtReset := by
  have sizes : SizesKept State.reset := reset_eq ▸ restartRuntime_sizes State.reset
  have stands : Stands State.reset := reset_eq ▸ restartRuntime_stands State.reset
  have staged : Staged State.reset := reset_eq ▸ Staged.restartRuntime (s := State.reset) default_inRange
  have fans : FansFit State.reset := reset_eq ▸ FansFit.restartRuntime State.reset
  have poll : PollLaw State.reset := reset_eq ▸ restartRuntime_pollLaw State.reset
  obtain ⟨staging, handOver⟩ := (staged_iff _).mp staged
  obtain ⟨setpoints, runSets⟩ := (fansFit_iff _).mp fans
  exact ⟨sizes.events, ⟨sizes.changes, fun g => (sizes.contexts g), sizes.transits⟩, reset_filteredLaw, fun _ => rfl,
    fun _ => ⟨rfl, rfl, rfl⟩, staging, handOver, reset_keysLaw, poll, stands.law, setpoints, runSets, .of_idle rfl rfl⟩

/-- R188: while a reset lasts only its own commands and the release line's level act. -/
theorem silenced_held {c : Instr} {s : State} (held : s.inReset = true) (silenced : silencedByReset c = true) :
    exec c s = .next s := by
  have deaf : ∀ chars, hears s chars = none := fun chars => by
    unfold hears listens; rw [held]
    split
    · exact if_neg fun on => by simp at on
    · rfl
  have ignored : ∀ code chars, takes s code chars = none := fun code chars => by unfold takes; rw [deaf]
  have request : ∀ (code : Byte) (chars : List Byte) (work : List Byte → State → Answer),
      answerRequest code chars work s = s ∧ answerAndResume code chars work s = s := fun code chars work =>
    answerRequest_ignored (ignored code chars) work
  have answers : ∀ {code : Byte} {chars : List Byte} {work : List Byte → State → Answer},
      Host.Outcome.next (σ := State) (φ := Fault) (ρ := Refusal) (answerRequest code chars work s) = .next s := by
    intro code chars work; rw [(request code chars work).1]
  have resumes : ∀ {code : Byte} {chars : List Byte} {work : List Byte → State → Answer},
      Host.Outcome.next (σ := State) (φ := Fault) (ρ := Refusal) (answerAndResume code chars work s) = .next s := by
    intro code chars work; rw [(request code chars work).2]
  cases c with
  | resetAsserted => cases silenced
  | deviceReset => cases silenced
  | serviceReleaseAsserted => cases silenced
  | serviceReleaseDeasserted => cases silenced
  | trunkFrameDropped => rfl
  | unknownRequest dst src chars =>
    show Host.Outcome.next (answerUnknown (dst :: src :: chars) s) = _
    unfold answerUnknown; rw [deaf]
  | restart dst chars =>
    show Host.Outcome.next (match takes s 0x5A (dst :: chars) with
      | some f => answerFrame f (restartAccepted f.payload s) (withoutData restartWork f.payload s)
      | none => s) = _
    rw [ignored]
  | hold dst chars => exact resumes
  | pushOverride dst chars => exact resumes
  | popOverride dst chars => exact resumes
  | fanReset dst chars => exact resumes
  | status dst chars => exact answers
  | readChannel dst chars => exact answers
  | readZone dst chars => exact answers
  | readGroup dst chars => exact answers
  | readFan dst chars => exact answers
  | readNode dst chars => exact answers
  | readTable dst chars => exact answers
  | writeTable dst chars => exact answers
  | discard dst chars => exact answers
  | save dst chars => exact answers
  | run dst chars => exact answers
  | standby dst chars => exact answers
  | acknowledge dst chars => exact answers
  | fetchEvents dst chars => exact answers
  | pass dst chars => exact answers
  | collect dst chars => exact answers
  | _ => exact live_held held _

/-- Settles O5. -/
theorem resetAssertedHoldsThePart : Obligations.ResetAssertedHoldsThePart :=
  ⟨fun _ => rfl, fun _ _ held silenced => silenced_held held silenced⟩

/-- R171: the attention byte of a part just restarted shows STANDBY, an event waiting, and nothing pending. -/
theorem attention_restarted (s : State) : attention (restartRuntime s) = 0x02 := by
  have quiet := (restartRuntime_stands s).resting.functions.2.2.1
  unfold attention
  rw [quiet]; rfl

/-- Settles O35. -/
theorem restartKeepsTheTables : Obligations.RestartKeepsTheTables := by
  intro s src listening free
  have taken : takes s 0x5A (s.station :: s.asked 0x5A src []) = _ := takes_of (takes_asked listening (Nat.zero_le 120))
  show Host.Outcome.next (match takes s 0x5A (s.station :: s.asked 0x5A src []) with
      | some f => answerFrame f (restartAccepted f.payload s) (withoutData restartWork f.payload s)
      | none => s) = _
  rw [taken]
  have work : withoutData restartWork [] s = answerOnly .done (restartRuntime s) := by
    show restartWork s = _
    unfold restartWork; rw [free]; rfl
  have accepted : restartAccepted [] s = true := by unfold restartAccepted; rw [free]; rfl
  dsimp only
  rw [work, accepted]
  unfold answerFrame replyFrame answerOnly; dsimp only
  rw [attention_restarted, restartRuntime_eq]; rfl

/-! ## The store -/

/-- A listening part answers a request sent to it by that request's work (R168 to R170). -/
theorem answerRequest_asked {s : State} (listening : s.Listening) (code src : Byte) {payload : List Byte}
    (short : payload.length ≤ 120) (work : List Byte → State → Answer) :
    answerRequest code (s.station :: s.asked code src payload) work s =
      answered code src (work payload s).result (work payload s).data (work payload s).state :=
  answerRequest_taken (takes_asked listening short) work

theorem answerAndResume_asked {s : State} (listening : s.Listening) (code src : Byte) {payload : List Byte}
    (short : payload.length ≤ 120) (work : List Byte → State → Answer) :
    answerAndResume code (s.station :: s.asked code src payload) work s =
      resume (answered code src (work payload s).result (work payload s).data (work payload s).state) :=
  answerAndResume_taken (takes_asked listening short) work

/-- A RESTART that is not carried out is answered as any other request. -/
theorem exec_restart_asked {s : State} (listening : s.Listening) (src : Byte) {payload : List Byte} (short : payload.length ≤ 120)
    (refused : restartAccepted payload s = false) :
    exec (.restart s.station (s.asked 0x5A src payload)) s =
      .next (answered 0x5A src (withoutData restartWork payload s).result (withoutData restartWork payload s).data
        (withoutData restartWork payload s).state) := by
  have taken : takes s 0x5A (s.station :: s.asked 0x5A src payload) = _ := takes_of (takes_asked listening short)
  show Host.Outcome.next (match takes s 0x5A (s.station :: s.asked 0x5A src payload) with
      | some f => answerFrame f (restartAccepted f.payload s) (withoutData restartWork f.payload s)
      | none => s) = _
  rw [taken]; dsimp only
  rw [refused]; rfl

theorem exec_save (dst : Byte) (chars : List Byte) (s : State) :
    exec (.save dst chars) s = .next (answerRequest 0x53 (dst :: chars) (withoutData saveWork) s) := rfl

theorem saveWork_free {s : State} (free : s.save = none) :
    saveWork s = answerOnly .done { s with save := some { snapshot := s.tables, phase := .accepted } } := by
  unfold saveWork; rw [free]; rfl

theorem saveWork_busy {s : State} (busy : s.save ≠ none) : saveWork s = answerOnly .busy s := by
  unfold saveWork; rw [if_pos (Option.isSome_iff_ne_none.mpr busy)]

theorem restartWork_busy {s : State} (busy : s.save ≠ none) : restartWork s = answerOnly .busy s := by
  unfold restartWork; rw [if_pos (Option.isSome_iff_ne_none.mpr busy)]

/-- Settles O22. -/
theorem savesWriteTheSnapshot : Obligations.SavesWriteTheSnapshot := by
  intro s
  refine ⟨fun listening src => ⟨fun free => ?_, fun busy => ⟨?_, ?_⟩⟩, fun awake v flying => ⟨fun phase => ?_, fun phase => ?_⟩⟩
  · rw [exec_save, answerRequest_asked_withoutData listening, saveWork_free free]; rfl
  · rw [exec_save, answerRequest_asked_withoutData listening, saveWork_busy busy]; rfl
  · have refused : restartAccepted [] s = false := by
      unfold restartAccepted
      cases k : s.save with
      | none => exact absurd k busy
      | some v => rfl
    rw [exec_restart_asked listening src (payload := []) (Nat.zero_le 120) refused,
      show withoutData restartWork [] s = answerOnly .busy s from restartWork_busy busy]
    rfl
  · refine (live_awake awake _).trans ?_
    rw [flying]; dsimp only; rw [if_pos phase]
  · refine (live_awake awake _).trans ?_
    rw [flying]; dsimp only; rw [if_pos phase]

/-- R126: HEALTHY asks for a valid store. -/
theorem healthyFunction_invalid {s : State} (invalid : s.storeValid = false) : healthyFunction s = false := by
  unfold healthyFunction; rw [invalid, Bool.and_false, Bool.false_and]

/-- Settles O23: the completion stores the cells as found, posts by the read-back, and judges HEALTHY. -/
theorem savesCompleteByTheReadBack : Obligations.SavesCompleteByTheReadBack := by
  intro s v cells awake flying written
  refine ⟨completeSave v (cells.foldl changeCell s.store) s, ?_, rfl, rfl, rfl, ⟨rfl, ?_, ?_, fun differs => ?_⟩, ?_⟩
  · refine (live_awake awake _).trans ?_
    rw [flying]; dsimp only; rw [if_pos written]
  · rfl
  · rfl
  · exact healthyFunction_invalid differs
  · rfl

/-! ## The phases of an attempt -/

theorem inPhase_of {p : Phase} {f : Transaction → State → State} {s : State} {tr : Transaction}
    (flying : s.transaction = some tr) (phase : tr.phase = p) : inPhase p f s = f tr s := by
  unfold inPhase; rw [flying]; exact if_pos phase

theorem pollFailed_again {tr : Transaction} {n : Nat} (left : tr.left = n + 1) (a : Nat) (s : State) :
    pollFailed tr a s = { s with transaction := some { tr with left := n, phase := .gap } } := by
  unfold pollFailed; rw [left]

theorem attemptFailed_poll {tr : Transaction} {a : Nat} (owner : tr.owner = .poll a) (s : State) :
    attemptFailed tr s = pollFailed tr a (countError a s) := by
  unfold attemptFailed; rw [owner]

theorem attemptFailed_transit {tr : Transaction} (owner : tr.owner = .transit) (s : State) :
    attemptFailed tr s = afterTransit (endTransit .timeout [] s) := by
  unfold attemptFailed; rw [owner]

theorem attemptAnswered_poll {tr : Transaction} {a : Nat} (owner : tr.owner = .poll a) (reply : Frame) (s : State) :
    attemptAnswered tr reply s = pollAfter a (readingArrival a reply.payload (nodeOutcome a true s)) := by
  unfold attemptAnswered; rw [owner]

theorem attemptAnswered_transit {tr : Transaction} (owner : tr.owner = .transit) (reply : Frame) (s : State) :
    attemptAnswered tr reply s = afterTransit (endTransit .reply reply.payload s) := by
  unfold attemptAnswered; rw [owner]

/-- R138: a contention that leaves the count below 3 fails the attempt. -/
theorem attemptContended_poll {tr : Transaction} {a : Nat} (owner : tr.owner = .poll a) {s : State} (below : s.contention + 1 < 3) :
    attemptContended tr s = pollFailed tr a { s with contention := s.contention + 1 } := by
  unfold attemptContended; dsimp only; rw [if_neg (by omega), owner]

theorem attemptContended_transit {tr : Transaction} (owner : tr.owner = .transit) {s : State} (below : s.contention + 1 < 3) :
    attemptContended tr s = afterTransit (endTransit .abandoned [] { s with contention := s.contention + 1 }) := by
  unfold attemptContended; dsimp only; rw [if_neg (by omega), owner]

/-- R129, R130: a reception that brings no valid reply fails the attempt. -/
theorem endReception_failed {tr : Transaction} {chars : List Byte}
    (bad : receive 60 chars = .malformed ∨ receive 60 chars = .crcError ∨
      ∃ f, receive 60 chars = .frame f ∧ validReply tr.frame.dst f = false) (s : State) :
    endReception chars tr s = attemptFailed tr s := by
  have limit : fieldLimit = 60 := rfl
  unfold endReception; rw [limit]
  rcases bad with is | is | ⟨f, is, wrong⟩
  · rw [is]
  · rw [is]
  · rw [is]; dsimp only; rw [if_neg (by rw [wrong]; exact nofun)]

theorem endReception_answered {tr : Transaction} {chars : List Byte} {f : Frame} (is : receive 60 chars = .frame f)
    (valid : validReply tr.frame.dst f = true) (s : State) : endReception chars tr s = attemptAnswered tr f s := by
  have limit : fieldLimit = 60 := rfl
  unfold endReception; rw [limit, is]; exact if_pos valid

section
variable {s : State} {tr : Transaction} (awake : s.inReset = false) (flying : s.transaction = some tr)
include awake flying

/-- The commands of an attempt, each in the phase it ends (R135). -/
theorem exec_replyTimeout (phase : tr.phase = .awaiting) : exec .replyTimeout s = .next (attemptFailed tr s) :=
  (live_awake awake _).trans (congrArg _ (inPhase_of flying phase))

theorem exec_framingError (phase : tr.phase = .receiving) : exec .framingError s = .next (attemptFailed tr s) :=
  (live_awake awake _).trans (congrArg _ (inPhase_of flying phase))

theorem exec_fieldReceptionEnd (phase : tr.phase = .receiving) (chars : List Byte) :
    exec (.fieldReceptionEnd chars) s = .next (endReception chars tr s) :=
  (live_awake awake _).trans (congrArg _ (inPhase_of flying phase))

theorem exec_contentionMismatch (phase : tr.phase = .sending) : exec .contentionMismatch s = .next (attemptContended tr s) :=
  (live_awake awake _).trans (congrArg _ (inPhase_of flying phase))

end

/-- Settles O10: each phase has its command, and with attempts left a failure repeats the frame. -/
theorem attemptsPassTheirPhasesAndAreRepeated : Obligations.AttemptsPassTheirPhasesAndAreRepeated := by
  intro s tr awake flying
  refine ⟨fun phase => ?_, fun phase => ?_, fun phase => ?_, fun a n owner left => ?_⟩
  · exact (live_awake awake _).trans (congrArg _ (inPhase_of flying phase))
  · exact (live_awake awake _).trans (congrArg _ (inPhase_of flying phase))
  · exact (live_awake awake _).trans (congrArg _ (inPhase_of flying phase))
  have failed : attemptFailed tr s = { countError a s with transaction := some { tr with left := n, phase := .gap } } :=
    (attemptFailed_poll owner s).trans (pollFailed_again left a _)
  refine ⟨fun phase => ?_, fun phase => ?_, fun phase chars bad => ?_, fun phase below => ?_⟩
  · rw [exec_replyTimeout awake flying phase, failed]; rfl
  · rw [exec_framingError awake flying phase, failed]; rfl
  · rw [exec_fieldReceptionEnd awake flying phase, endReception_failed bad, failed]; rfl
  · rw [exec_contentionMismatch awake flying phase, attemptContended_poll owner below, pollFailed_again left]

end Sys2Proof.Machine
end

section
/-! PROOFS. The trunk port's requests: what is no request, what is refused by its form, and the reads (O24 to O28, O36). -/

namespace Sys2Proof.Machine

/-! ## Frames the port does not take -/

/-- The rows of the requests (R181). -/
def requestRows : List (Byte → List Byte → Instr) :=
  [.status, .readChannel, .readZone, .readGroup, .readFan, .readNode, .readTable, .writeTable, .hold, .discard, .save,
    .run, .standby, .restart, .acknowledge, .pushOverride, .popOverride, .fanReset, .fetchEvents, .pass, .collect]

theorem unheard_request {s : State} {dst : Byte} {chars : List Byte} (unheard : hears s (dst :: chars) = none) :
    ∀ request ∈ requestRows, exec (request dst chars) s = .next s := by
  have ignored : ∀ code, takes s code (dst :: chars) = none := fun code => by unfold takes; rw [unheard]
  have answers : ∀ {code : Byte} {work : List Byte → State → Answer},
      Host.Outcome.next (σ := State) (φ := Fault) (ρ := Refusal) (answerRequest code (dst :: chars) work s) = .next s := by
    intro code work; rw [(answerRequest_ignored (ignored code) work).1]
  have resumes : ∀ {code : Byte} {work : List Byte → State → Answer},
      Host.Outcome.next (σ := State) (φ := Fault) (ρ := Refusal) (answerAndResume code (dst :: chars) work s) = .next s := by
    intro code work; rw [(answerRequest_ignored (ignored code) work).2]
  have restarts : exec (.restart dst chars) s = .next s := by
    show Host.Outcome.next (match takes s 0x5A (dst :: chars) with
      | some f => answerFrame f (restartAccepted f.payload s) (withoutData restartWork f.payload s)
      | none => s) = _
    rw [ignored]
  unfold requestRows
  simp only [List.forall_mem_cons]
  exact ⟨answers, answers, answers, answers, answers, answers, answers, answers, resumes, answers, answers, answers, answers,
    restarts, answers, resumes, resumes, resumes, answers, answers, answers, nofun⟩

/-- The destination of a received frame is the first character (R128, R179). -/
theorem receive_dst {limit : Nat} {dst : Byte} {chars : List Byte} {f : Frame} (h : receive limit (dst :: chars) = .frame f) :
    f.dst = dst := by
  unfold receive at h
  split at h
  · rename_i eq
    obtain ⟨rfl, -⟩ := List.cons.inj eq
    split at h
    · cases h
    · split at h
      · dsimp only at h
        split at h
        · cases h; rfl
        · cases h
      · cases h
  · cases h

/-- R168: what the port takes as no request. -/
theorem unheard_of {s : State} {dst : Byte} {chars : List Byte}
    (no : ¬ s.Listening ∨ receive 120 (dst :: chars) = .malformed ∨ receive 120 (dst :: chars) = .crcError ∨
      receive 120 (dst :: chars) = .unfinished ∨ dst ≠ s.station ∨ dst = 127) : hears s (dst :: chars) = none := by
  have limit : trunkLimit = 120 := rfl
  cases heard : hears s (dst :: chars) with
  | none => rfl
  | some f =>
    obtain ⟨listening, received, station⟩ := (hears_iff s _ f).mp heard
    rw [limit] at received
    have own : dst = s.station := (receive_dst received).symm.trans station
    rcases no with deaf | bad | bad | bad | other | broadcast
    · exact absurd listening deaf
    · rw [received] at bad; cases bad
    · rw [received] at bad; cases bad
    · rw [received] at bad; cases bad
    · exact absurd own other
    · obtain ⟨-, -, -, known⟩ := listening
      rw [broadcast] at own
      have address : ∀ a : BitVec 7, (127 : Byte) = a.setWidth 8 → a = 127 := by decide
      exact absurd (address _ own) known

/-- Settles O24. -/
theorem trunkPortCommands : Obligations.TrunkPortCommands := by
  refine ⟨fun _ => rfl, ?_, fun s src code payload listening short other => ?_,
    fun s straps rate reply awake => ⟨fun port => ?_, fun port => ?_⟩⟩
  · intro s dst src rest requests received no
    refine ⟨?_, unheard_request (unheard_of no)⟩
    show Host.Outcome.next (answerUnknown (dst :: src :: rest) s) = _
    unfold answerUnknown; rw [unheard_of no]
  · have heard : hears s (s.station :: s.asked code src payload) = _ :=
      (hears_iff s _ _).mpr ⟨listening, (takes_asked listening short).2, rfl⟩
    have unlisted : code ∉ catalogCodes := fun mem => other (by
      have codes : catalogCodes.map BitVec.toNat = [0x40, 0x41, 0x42, 0x43, 0x44, 0x45, 0x46, 0x50, 0x51, 0x52, 0x53, 0x58, 0x59,
        0x5A, 0x60, 0x61, 0x62, 0x63, 0x68, 0x70, 0x71] := by decide
      rw [← codes]; exact List.mem_map_of_mem mem)
    show Host.Outcome.next (answerUnknown (s.station :: s.asked code src payload) s) = _
    unfold answerUnknown; rw [heard]; dsimp only
    rw [if_neg unlisted]; rfl
  · refine (live_awake awake _).trans ?_
    rw [port]
  · refine (live_awake awake _).trans ?_
    rw [port]; rfl

/-! ## Requests of another form -/

section
variable {s : State} {src code : Byte} {payload : List Byte} {work : List Byte → State → Answer} {r : Result}

theorem refused_request (listening : s.Listening) (short : payload.length ≤ 120) (refused : work payload s = answerOnly r s) :
    answerRequest code (s.station :: s.asked code src payload) work s = answered code src r [] s := by
  rw [answerRequest_asked listening code src short, refused]; rfl

theorem refused_resuming (listening : s.Listening) (short : payload.length ≤ 120) (refused : work payload s = answerOnly r s) :
    answerAndResume code (s.station :: s.asked code src payload) work s = runWork s.work (answered code src r [] s) := by
  rw [answerAndResume_asked listening code src short, refused]; rfl

end

theorem withoutData_refused {payload : List Byte} (some : payload ≠ []) (work : State → Answer) (s : State) :
    withoutData work payload s = answerOnly .badRequest s := by
  cases payload with
  | nil => exact absurd rfl some
  | cons => rfl

theorem withIndex_refused {n : Nat} {payload : List Byte} (length : payload.length ≠ 1) (work : Fin n → State → Answer) (s : State) :
    withIndex n work payload s = answerOnly .badRequest s := by
  match payload with
  | [] => rfl
  | [_] => exact absurd rfl length
  | _ :: _ :: _ => rfl

theorem readNodeWork_refused {payload : List Byte} (length : payload.length ≠ 1) (s : State) :
    readNodeWork payload s = answerOnly .badRequest s := by
  match payload with
  | [] => rfl
  | [_] => exact absurd rfl length
  | _ :: _ :: _ => rfl

theorem acknowledgeWork_refused {payload : List Byte} (length : payload.length ≠ 1) (s : State) :
    acknowledgeWork payload s = answerOnly .badRequest s := by
  match payload with
  | [] => rfl
  | [_] => exact absurd rfl length
  | _ :: _ :: _ => rfl

theorem holdWork_refused {payload : List Byte} (length : payload.length ≠ 1) (s : State) :
    holdWork payload s = answerOnly .badRequest s := by
  match payload with
  | [] => rfl
  | [_] => exact absurd rfl length
  | _ :: _ :: _ => rfl

theorem readTableWork_refused {payload : List Byte} (length : payload.length ≠ 3) (s : State) :
    readTableWork payload s = answerOnly .badRequest s := by
  match payload with
  | [] | [_] | [_, _] => rfl
  | [_, _, _] => exact absurd rfl length
  | _ :: _ :: _ :: _ :: _ => rfl

theorem pushWork_refused {payload : List Byte} (length : payload.length ≠ 7) (s : State) :
    pushWork payload s = answerOnly .badRequest s := by
  match payload with
  | [] | [_] | [_, _] | [_, _, _] | [_, _, _, _] | [_, _, _, _, _] | [_, _, _, _, _, _] => rfl
  | [_, _, _, _, _, _, _] => exact absurd rfl length
  | _ :: _ :: _ :: _ :: _ :: _ :: _ :: _ :: _ => rfl

theorem writeTableWork_refused {payload : List Byte} (length : payload.length < 3) (s : State) :
    writeTableWork payload s = answerOnly .badRequest s := by
  match payload with
  | [] | [_] | [_, _] => rfl
  | _ :: _ :: _ :: _ => simp only [List.length_cons] at length; omega

theorem passWork_refused {payload : List Byte} (length : payload.length < 2) (s : State) :
    passWork payload s = answerOnly .badRequest s := by
  match payload with
  | [] | [_] => rfl
  | _ :: _ :: _ => simp only [List.length_cons] at length; omega

/-- Settles O25: each row's work refuses the form, and the port answers. -/
theorem requestsOfAnotherFormAreRefused : Obligations.RequestsOfAnotherFormAreRefused := by
  intro s src payload listening short
  refine ⟨fun some => ?_, fun length => ?_, fun length => ?_, fun length => ?_, fun length => ?_, fun length => ?_⟩
  · have plain : ∀ (code : Byte) (work : State → Answer),
        answerRequest code (s.station :: s.asked code src payload) (withoutData work) s = answered code src .badRequest [] s :=
      fun _ work => refused_request listening short (withoutData_refused some work s)
    have unaccepted : restartAccepted payload s = false := by
      unfold restartAccepted
      cases payload with
      | nil => exact absurd rfl some
      | cons => rfl
    refine ⟨congrArg _ (plain _ _), congrArg _ (plain _ _), congrArg _ (plain _ _), congrArg _ (plain _ _), congrArg _ (plain _ _), ?_,
      congrArg _ (plain _ _), congrArg _ (plain _ _)⟩
    rw [exec_restart_asked listening src short unaccepted, withoutData_refused some]; rfl
  · have index : ∀ (n : Nat) (code : Byte) (work : Fin n → State → Answer),
        answerRequest code (s.station :: s.asked code src payload) (withIndex n work) s = answered code src .badRequest [] s :=
      fun _ _ work => refused_request listening short (withIndex_refused length work s)
    exact ⟨congrArg _ (index _ _ _), congrArg _ (index _ _ _), congrArg _ (index _ _ _), congrArg _ (index _ _ _),
      congrArg _ (refused_request listening short (readNodeWork_refused length s)),
      congrArg _ (refused_request listening short (acknowledgeWork_refused length s)),
      congrArg _ (refused_resuming listening short (holdWork_refused length s)),
      congrArg _ (refused_resuming listening short (withIndex_refused length _ s)),
      congrArg _ (refused_resuming listening short (withIndex_refused length _ s))⟩
  · exact congrArg _ (refused_request listening short (readTableWork_refused length s))
  · exact congrArg _ (refused_resuming listening short (pushWork_refused length s))
  · exact congrArg _ (refused_request listening short (writeTableWork_refused length s))
  · exact congrArg _ (refused_request listening short (passWork_refused length s))

/-! ## Requests with one index -/

theorem finOf_byteOf {n : Nat} (small : n ≤ 256) (i : Fin n) : finOf n (byteOf i.val).toNat = some i := by
  rw [byteOf_toNat (i.isLt.trans_le small), finOf_val]

section
variable {s : State} {src code : Byte} {n : Nat} {work : Fin n → State → Answer}

theorem withIndex_own (small : n ≤ 256) (i : Fin n) : withIndex n work [byteOf i.val] s = work i s := by
  unfold withIndex; dsimp only; rw [finOf_byteOf small]

theorem withIndex_out {b : Byte} (out : n ≤ b.toNat) : withIndex n work [b] s = answerOnly .badIndex s := by
  unfold withIndex; dsimp only; rw [finOf_eq_none.mpr out]

/-- A read of one record returns it (R181). -/
theorem read_record (listening : s.Listening) (small : n ≤ 256) (data : State → Fin n → List Byte) (i : Fin n) :
    answerRequest code (s.station :: s.asked code src [byteOf i.val]) (withIndex n fun i t => readOnly (data t i) t) s =
      answered code src .done (data s i) s := by
  rw [answerRequest_asked listening code src (payload := [byteOf i.val]) (Nat.le_of_ble_eq_true rfl), withIndex_own small]; rfl

end

theorem readNodeWork_address {a : Byte} (low : 1 ≤ a.toNat) (high : a.toNat ≤ 126) (s : State) :
    readNodeWork [a] s = readOnly (nodeData s a.toNat) s := if_pos ⟨low, high⟩

/-- Settles O28. -/
theorem recordReadsReturnTheRecord : Obligations.RecordReadsReturnTheRecord := by
  intro s src listening
  have short : ∀ a : Byte, [a].length ≤ 120 := fun _ => Nat.le_of_ble_eq_true rfl
  have out : ∀ {n : Nat} {code a : Byte} {work : Fin n → State → Answer}, n ≤ a.toNat →
      answerRequest code (s.station :: s.asked code src [a]) (withIndex n work) s = answered code src .badIndex [] s :=
    fun beyond => refused_request listening (short _) (withIndex_out beyond)
  refine ⟨fun i => ?_, fun z => ?_, fun g => ?_, fun f => ?_, fun a low high => ⟨fun e found => ?_, fun absent => ?_⟩, fun a =>
    ⟨fun beyond => congrArg _ (out beyond), fun beyond => congrArg _ (out beyond), fun beyond => congrArg _ (out beyond),
      fun beyond => congrArg _ (out beyond), fun outside => ?_⟩⟩
  · exact congrArg _ (read_record listening (by decide) channelData i)
  · exact congrArg _ (read_record listening (by decide) zoneData z)
  · exact congrArg _ (read_record listening (by decide) groupData g)
  · exact congrArg _ (read_record listening (by decide) fanData f)
  · refine congrArg _ ((answerRequest_asked listening _ src (short a) _).trans ?_)
    rw [readNodeWork_address low high]
    unfold nodeData; rw [found]; rfl
  · refine congrArg _ ((answerRequest_asked listening _ src (short a) _).trans ?_)
    have none : s.pollList.find? (fun e => e.address == a.toNat) = none :=
      List.find?_eq_none.mpr fun e mem is => absent e mem (by simpa using is)
    rw [readNodeWork_address low high]
    unfold nodeData; rw [none]; rfl
  · exact congrArg _ (refused_request listening (short a) (if_neg (by omega)))

/-! ## STATUS -/

/-- The bytes of pairs, one pair after the other. -/
theorem flatMap_pair_getElem? {α : Type} (first second : α → Byte) (xs : List α) (k : Nat) :
    (xs.flatMap fun x => [first x, second x])[2 * k]? = xs[k]?.map first ∧
      (xs.flatMap fun x => [first x, second x])[2 * k + 1]? = xs[k]?.map second := by
  induction xs generalizing k with
  | nil => exact ⟨rfl, rfl⟩
  | cons x xs ih =>
    cases k with
    | zero => exact ⟨rfl, rfl⟩
    | succ k => exact ih k

theorem flatMap_pair_length {α : Type} (first second : α → Byte) (xs : List α) :
    (xs.flatMap fun x => [first x, second x]).length = 2 * xs.length := by
  induction xs with
  | nil => rfl
  | cons x xs ih =>
    have more : ([first x, second x] ++ xs.flatMap fun x => [first x, second x]).length = 2 + 2 * xs.length := by
      rw [List.length_append, ih]; rfl
    rw [List.flatMap_cons, more, List.length_cons]; omega

/-- R183: the bytes of STATUS before the zones'. -/
def statusHead (s : State) : List Byte :=
  [byteOf s.mode.code, byteOf s.warmupLeft, byteOf s.segment.code, outputsByte s.outputs,
    byteOf (s.storeValid.toNat + 2 * s.save.isSome.toNat + 4 * s.hold.toNat)] ++ halfOf s.holdCount ++
    [byteOf s.changes.length, byteOf s.events.length, byteOf s.lost, byteOf s.transits.length,
      byteOf (s.pollList.filter fun e => e.state == .offline).length, byteOf s.pollList.length] ++ wordBytes s.cycleCount

theorem statusHead_length (s : State) : (statusHead s).length = 17 := rfl

/-- Settles O27. -/
theorem statusReturnsTheSummary : Obligations.StatusReturnsTheSummary := by
  intro s src listening
  have zones := flatMap_pair_getElem? (fun z : Fin 16 => zoneStateByte s.zones[z])
    (fun z => zoneFlagsByte s.tables.zones[z].enabled s.zones[z]) (List.finRange 16)
  have groups := flatMap_pair_getElem? (fun g : Fin 4 => byteOf (s.groups[g].commanded + 16 * s.groups[g].condition.code +
    64 * s.groups[g].handOver.toNat)) (fun g => byteOf (s.groups[g].floor + 16 * s.groups[g].stack.length)) (List.finRange 4)
  have zonesLength := flatMap_pair_length (fun z : Fin 16 => zoneStateByte s.zones[z])
    (fun z => zoneFlagsByte s.tables.zones[z].enabled s.zones[z]) (List.finRange 16)
  have groupsLength := flatMap_pair_length (fun g : Fin 4 => byteOf (s.groups[g].commanded + 16 * s.groups[g].condition.code +
    64 * s.groups[g].handOver.toNat)) (fun g => byteOf (s.groups[g].floor + 16 * s.groups[g].stack.length)) (List.finRange 4)
  have head := statusHead_length s
  have data : statusData s = statusHead s ++ (((List.finRange 16).flatMap fun z =>
      [zoneStateByte s.zones[z], zoneFlagsByte s.tables.zones[z].enabled s.zones[z]]) ++
      ((List.finRange 4).flatMap fun g => [byteOf (s.groups[g].commanded + 16 * s.groups[g].condition.code +
        64 * s.groups[g].handOver.toNat), byteOf (s.groups[g].floor + 16 * s.groups[g].stack.length)])) := by
    unfold statusData; rw [List.append_assoc]; rfl
  rw [List.length_finRange] at zonesLength groupsLength
  refine ⟨statusData s, congrArg _ (answerRequest_asked_withoutData listening 0x40 src _), ?_, ?_, fun z => ⟨?_, ?_⟩,
    fun g => ⟨?_, ?_⟩⟩
  · rw [data, List.length_append, List.length_append, head, zonesLength, groupsLength]
  · rw [data, List.take_left' head, List.countP_eq_length_filter]; rfl
  · rw [data, List.getElem?_append_right (by omega), List.getElem?_append_left (by omega), head, Nat.add_sub_cancel_left,
      (zones z.val).1]
    simp; rfl
  · rw [data, List.getElem?_append_right (by omega), List.getElem?_append_left (by omega), head,
      show 18 + 2 * z.val - 17 = 2 * z.val + 1 by omega, (zones z.val).2]
    simp; rfl
  · rw [data, List.getElem?_append_right (by omega), List.getElem?_append_right (by omega), head, zonesLength,
      show 49 + 2 * g.val - 17 - 2 * 16 = 2 * g.val by omega, (groups g.val).1]
    simp
  · rw [data, List.getElem?_append_right (by omega), List.getElem?_append_right (by omega), head, zonesLength,
      show 50 + 2 * g.val - 17 - 2 * 16 = 2 * g.val + 1 by omega, (groups g.val).2]
    simp

/-! ## ACKNOWLEDGE -/

theorem acknowledgeZones_zones {zs : List (Fin 16)} (once : zs.Nodup) (s : State) (z : Fin 16) :
    (zs.foldl acknowledgeZone s).zones[z] = if z ∈ zs then acknowledgeRecord s.zones[z] else s.zones[z] := by
  induction zs generalizing s with
  | nil => rfl
  | cons y ys ih =>
    obtain ⟨absent, once⟩ := List.nodup_cons.mp once
    have first : (acknowledgeZone s y).zones[z] = if y = z then acknowledgeRecord s.zones[y] else s.zones[z] :=
      zones_setZone y z _ s
    rw [List.foldl_cons, ih once, first]
    by_cases same : y = z
    · subst same; rw [if_neg absent, if_pos rfl, if_pos List.mem_cons_self]
    · rw [if_neg same]
      simp only [List.mem_cons, Ne.symm same, false_or]

theorem acknowledgeZones_eq (zs : List (Fin 16)) (s : State) :
    zs.foldl acknowledgeZone s = { s with zones := (zs.foldl acknowledgeZone s).zones } := by
  induction zs generalizing s with
  | nil => rfl
  | cons z zs ih => exact (ih (acknowledgeZone s z)).trans rfl

/-- R125: the finish of an ACKNOWLEDGE that changed the zones alone. -/
theorem judgeBeacon_of_zones (zs : Vector ZoneRecord 16) (s : State) :
    judgeBeacon { s with zones := zs } = { s with
      zones := zs, outputs := { s.outputs with beacon := beaconFunction (judgeBeacon { s with zones := zs }) } } := rfl

theorem exec_acknowledge_asked {s : State} (listening : s.Listening) (src b : Byte) {r : Result} {u : State}
    (work : acknowledgeWork [b] s = answerOnly r u) :
    exec (.acknowledge s.station (s.asked 0x60 src [b])) s = .next (answered 0x60 src r [] u) := by
  have asked := answerRequest_asked listening 0x60 src (payload := [b]) (Nat.le_of_ble_eq_true rfl) acknowledgeWork
  rw [work] at asked
  exact congrArg Host.Outcome.next asked

theorem acknowledgeWork_zone (z : Fin 16) (s : State) :
    acknowledgeWork [byteOf z.val] s = answerOnly .done (judgeBeacon (acknowledgeZone s z)) := by
  have single : byteOf z.val ≠ 0xFF := fun is => by
    have value : z.val = 255 := by rw [← byteOf_toNat (n := z.val) (by omega), is]; rfl
    omega
  unfold acknowledgeWork; dsimp only
  rw [if_neg single, finOf_byteOf (by decide)]

theorem acknowledgeWork_all (s : State) :
    acknowledgeWork [0xFF] s = answerOnly .done (judgeBeacon ((List.finRange 16).foldl acknowledgeZone s)) := by
  unfold acknowledgeWork; dsimp only; rw [if_pos rfl]

/-- Settles O36. -/
theorem acknowledgeSetsTheFlags : Obligations.AcknowledgeSetsTheFlags := by
  intro s src listening named
  refine ⟨fun z => ⟨_, exec_acknowledge_asked listening src _ (acknowledgeWork_zone z s), judgeBeacon_of_zones _ s⟩,
    ⟨_, exec_acknowledge_asked listening src _ (acknowledgeWork_all s), fun z => ?_, ?_⟩, fun b low high => ?_⟩
  · rw [judgeBeacon_zones, acknowledgeZones_zones (List.nodup_finRange 16), if_pos (List.mem_finRange z)]; rfl
  · have frame := acknowledgeZones_eq (List.finRange 16) s
    generalize (List.finRange 16).foldl acknowledgeZone s = u at frame ⊢
    rw [frame]; exact judgeBeacon_of_zones u.zones s
  · refine exec_acknowledge_asked listening src b ?_
    unfold acknowledgeWork; dsimp only
    rw [if_neg (fun is => by rw [is] at high; exact absurd high (by decide)), finOf_eq_none.mpr low]

end Sys2Proof.Machine
end

section
/-! PROOFS. READ-TABLE and WRITE-TABLE (O29 to O31). -/

namespace Sys2Proof.Machine

/-! ## READ-TABLE -/

/-- R173: each index of a table has its entry. -/
theorem readEntry_isSome {s : State} {tb : TableId} {index : Nat} : (readEntry s tb index).isSome = decide (index < tableSize tb) := by
  have found : ∀ {n : Nat} {α : Type} (f : Fin n → α), ((finOf n index).map f).isSome = decide (index < n) := fun {n} {α} f => by
    unfold finOf; split <;> simp_all
  cases tb with
  | bindings => exact found _
  | zones => exact found _
  | groups => exact found _
  | fans => exact found _
  | device =>
    show (if index = 0 then some (encodeDevice s.tables.device) else none).isSome = _
    by_cases first : index = 0
    · subst first; rfl
    · rw [if_neg first]
      have beyond : ¬ index < tableSize .device := fun h => first (Nat.lt_one_iff.mp h)
      simp [beyond]

theorem readBlock_within {s : State} {tb : TableId} (start n : Nat) (fits : start + n ≤ tableSize tb) :
    readBlock s tb start n = some ((List.range n).flatMap fun k => (readEntry s tb (start + k)).getD []) := by
  induction n generalizing start with
  | zero => rfl
  | succ n ih =>
    have first : (readEntry s tb start).isSome = true := by rw [readEntry_isSome]; simpa using by omega
    obtain ⟨e, is⟩ := Option.isSome_iff_exists.mp first
    unfold readBlock
    rw [is, ih (start + 1) (by omega), List.range_succ_eq_map, List.flatMap_cons, List.flatMap_map]
    simp only [Nat.add_zero, is, Option.getD_some, Nat.add_assoc, Nat.add_comm 1]

theorem readBlock_leaves {s : State} {tb : TableId} (start n : Nat) (some : 1 ≤ n) (leaves : tableSize tb < start + n) :
    readBlock s tb start n = none := by
  induction n generalizing start with
  | zero => omega
  | succ n ih =>
    unfold readBlock
    by_cases last : n = 0
    · have absent : readEntry s tb start = none := by
        rw [← Option.not_isSome_iff_eq_none, readEntry_isSome, decide_eq_true_eq]; omega
      rw [absent]
    · rw [ih (start + 1) (by omega) (by omega)]
      cases readEntry s tb start <;> rfl

/-- R3, R5: the place of a slot in its chain, found only where its binding is valid. -/
theorem KeysLaw.chainPosition_eq {s : State} (law : KeysLaw s) (i : Fin 64) :
    chainPosition s i = if s.tables.bindings[i].valid then some (s.chains[bindingBucket s.tables.bindings[i]].idxOf i) else none := by
  unfold chainPosition; dsimp only
  by_cases valid : s.tables.bindings[i].valid = true
  · rw [if_pos valid, if_pos valid]
    exact List.findIdx?_eq_some_of_exists ⟨i, law.mem_chain.mpr ⟨valid, rfl⟩, beq_self_eq_true i⟩
  · rw [if_neg valid, if_neg valid]

section
variable {s : State} {tb : TableId} {start n : Byte}

theorem readTableWork_some {es : List Byte} (count : 1 ≤ n.toNat ∧ n.toNat ≤ 8) (block : readBlock s tb start.toNat n.toNat = some es) :
    readTableWork [byteOf tb.code, start, n] s = readOnly (byteOf tb.code :: start :: n :: es) s := by
  unfold readTableWork; dsimp only
  rw [byteOf_toNat (by cases tb <;> decide), tableOfCode_code]; dsimp only
  rw [if_pos count, block]

theorem readTableWork_none (count : 1 ≤ n.toNat ∧ n.toNat ≤ 8) (block : readBlock s tb start.toNat n.toNat = none) :
    readTableWork [byteOf tb.code, start, n] s = answerOnly .badIndex s := by
  unfold readTableWork; dsimp only
  rw [byteOf_toNat (by cases tb <;> decide), tableOfCode_code]; dsimp only
  rw [if_pos count, block]

end

theorem tableOfCode_unknown {n : Nat} (unknown : n = 0 ∨ 5 < n) : tableOfCode n = none := by
  unfold tableOfCode
  repeat rw [if_neg (by omega)]

theorem tableSize_le (tb : TableId) : tableSize tb ≤ 64 := by cases tb <;> decide

/-- Settles O29. -/
theorem readTableReturnsTheBlock : Obligations.ReadTableReturnsTheBlock := by
  intro s src listening
  have short : ∀ a b c : Byte, [a, b, c].length ≤ 120 := fun _ _ _ => Nat.le_of_ble_eq_true rfl
  refine ⟨fun tb start n some few fits => ?_, fun tb start n some few leaves => ?_, fun tb start n bad => ?_, fun law i => ?_,
    fun z => ?_, fun g => ?_, fun f => ?_, rfl⟩
  · have size := tableSize_le tb
    refine congrArg _ ((answerRequest_asked listening _ src (short _ _ _) _).trans ?_)
    have start' : (byteOf start).toNat = start := byteOf_toNat (by omega)
    have n' : (byteOf n).toNat = n := byteOf_toNat (by omega)
    rw [readTableWork_some (by rw [n']; exact ⟨some, few⟩) (by rw [start', n']; exact readBlock_within start n fits)]
    rfl
  · exact congrArg _ (refused_request listening (short _ _ _)
      (readTableWork_none ⟨some, few⟩ (readBlock_leaves _ _ some leaves)))
  · refine congrArg _ (refused_request listening (short _ _ _) ?_)
    by_cases unknown : tb.toNat = 0 ∨ 5 < tb.toNat
    · unfold readTableWork; dsimp only; rw [tableOfCode_unknown unknown]
    · unfold readTableWork; dsimp only
      cases tableOfCode tb.toNat with
      | none => rfl
      | some t => exact if_neg (by omega)
  · show (finOf 64 i.val).map _ = _
    rw [finOf_val, Option.map_some, law.chainPosition_eq i]
    cases s.tables.bindings[i].valid <;> rfl
  · show (finOf 16 z.val).map _ = _
    rw [finOf_val]; rfl
  · show (finOf 4 g.val).map _ = _
    rw [finOf_val]; rfl
  · show (finOf 8 f.val).map _ = _
    rw [finOf_val]; rfl

end Sys2Proof.Machine
end

section
/-! PROOFS. WRITE-TABLE and HOLD (O30, O31). -/

namespace Sys2Proof.Machine

/-! ## Bytes read and written again -/

theorem halfBytes_joinBytes (high low : Byte) : halfBytes (joinBytes high low) = [high, low] := by
  have upper : (joinBytes high low).extractLsb' 8 8 = high := BitVec.eq_of_getLsbD_eq fun i hi => by
    simp only [joinBytes, BitVec.getLsbD_extractLsb', BitVec.getLsbD_append]
    simp [hi]
  have lower : (joinBytes high low).extractLsb' 0 8 = low := BitVec.eq_of_getLsbD_eq fun i hi => by
    simp only [joinBytes, BitVec.getLsbD_extractLsb', BitVec.getLsbD_append]
    simp [hi]
  unfold halfBytes; rw [upper, lower]

theorem halfOf_joinBytes (high low : Byte) : halfOf (joinBytes high low).toNat = [high, low] := by
  have whole : halfOf (joinBytes high low).toNat = halfBytes (BitVec.ofNat 16 (joinBytes high low).toNat) := rfl
  rw [whole, BitVec.ofNat_toNat, BitVec.setWidth_eq, halfBytes_joinBytes]

theorem halfBytes_signed (high low : Byte) : halfBytes (BitVec.ofInt 16 (joinBytes high low).toInt) = [high, low] := by
  rw [BitVec.ofInt_toInt, halfBytes_joinBytes]

theorem bindingFlags_read {f : Byte} (known : (f &&& 0xF0) = 0) :
    byteOf ((f.getLsbD 0).toNat + 2 * (kindOfCode (f.extractLsb' 1 2)).code +
      8 * (if f.getLsbD 3 then Role.equalize else .purge).code) = f := by
  revert f; decide

theorem zoneFlags_read {f : Byte} (known : (f &&& 0x0C) = 0) :
    byteOf ((f.getLsbD 0).toNat + 2 * (f.getLsbD 1).toNat + 16 * (f.extractLsb' 4 4).toNat) = f := by
  revert f; decide

theorem voteAndWindow_read {v : Byte} (known : (v &&& 0x88) = 0) :
    byteOf ((v.extractLsb' 0 3).toNat + 16 * (v.extractLsb' 4 3).toNat) = v := by
  revert v; decide

theorem limitAndCount_read (c : Byte) : byteOf ((c.extractLsb' 0 4).toNat + 16 * (c.extractLsb' 4 4).toNat) = c := by
  revert c; decide

theorem stagePair_read (m : Byte) : stagePair (m.extractLsb' 4 4).toNat (m.extractLsb' 0 4).toNat = m := by
  revert m; decide

theorem groupOrder_read {b : Byte} (known : (b &&& 0xCC) = 0) :
    byteOf ((b.extractLsb' 0 2).toFin.val + 16 * (b.extractLsb' 4 2).toFin.val) = b := by
  revert b; decide

theorem flag_read {f : Byte} (known : (f &&& 0xFE) = 0) : flagByte (f.getLsbD 0) = f := by
  revert f; decide

theorem byteOf_finOf {n : Nat} {b : Byte} {i : Fin n} (read : finOf n b.toNat = some i) : byteOf i.val = b := by
  unfold finOf at read
  split at read
  · cases read; exact byteOf_toNat_self b
  · cases read

theorem optionByte_slot {b : Byte} {o : Option (Fin 64)} (read : slotOfByte b = some o) : optionByte o = b := by
  unfold slotOfByte at read
  split at read
  · rename_i none; cases read; exact none.symm
  · obtain ⟨i, is, rfl⟩ := Option.map_eq_some_iff.mp read
    exact byteOf_finOf is

/-! ## Layouts read and written again -/

theorem eq_of_checked {α : Type} {p : α → Bool} {x e : α} (h : (if p x = true then some x else none) = some e) : x = e := by
  split at h
  · cases h; rfl
  · cases h

theorem masked_of_not_stray {a m : Byte} (h : ((a &&& m) != 0) = false) : (a &&& m) = 0 := by simpa using h

theorem encodeBinding_decode {bs : List Byte} {e : Binding} (known : strayFlags .bindings bs = false)
    (decoded : decodeBinding bs = some e) : encodeBinding e = bs := by
  unfold decodeBinding at decoded
  split at decoded
  · rename_i f _ _ _ _ _ _ _ _ _ _
    have flags : (f &&& 0xF0) = 0 := masked_of_not_stray known
    split at decoded
    · rename_i point zone
      obtain rfl := eq_of_checked (p := Binding.inRange) decoded
      unfold encodeBinding; dsimp only
      rw [bindingFlags_read flags, byteOf_finOf point, byteOf_finOf zone, halfBytes_signed, halfOf_joinBytes,
        halfOf_joinBytes, byteOf_toNat_self, byteOf_toNat_self]
      rfl
    · cases decoded
  · cases decoded

theorem encodeZone_decode {bs : List Byte} {e : ZoneEntry} (known : strayFlags .zones bs = false)
    (packed : strayPacked .zones bs = false) (decoded : decodeZone bs = some e) : encodeZone e = bs := by
  unfold decodeZone at decoded
  split at decoded
  · rename_i f _ _ _ _ _ _ _ v _ _ _ _
    have flags : (f &&& 0x0C) = 0 := masked_of_not_stray known
    have vote : (v &&& 0x88) = 0 := masked_of_not_stray packed
    obtain rfl := eq_of_checked (p := ZoneEntry.inRange) decoded
    unfold encodeZone; dsimp only
    rw [zoneFlags_read flags, voteAndWindow_read vote, limitAndCount_read,
      halfOf_joinBytes, halfOf_joinBytes, halfOf_joinBytes, halfOf_joinBytes, byteOf_toNat_self, byteOf_toNat_self]
    rfl
  · cases decoded

theorem encodeGroup_decode {bs : List Byte} {e : GroupEntry} (decoded : decodeGroup bs = some e) : encodeGroup e = bs := by
  unfold decodeGroup at decoded
  split at decoded
  · obtain rfl := eq_of_checked (p := GroupEntry.inRange) decoded
    unfold encodeGroup; dsimp only
    rw [stagePair_read, stagePair_read, stagePair_read, stagePair_read, stagePair_read, halfOf_joinBytes, byteOf_toNat_self,
      byteOf_toNat_self]
    simp [byteOf_toNat_self]
  · cases decoded

theorem encodeFan_decode {bs : List Byte} {e : FanEntry} (known : strayFlags .fans bs = false)
    (packed : strayPacked .fans bs = false) (decoded : decodeFan bs = some e) : encodeFan e = bs := by
  unfold decodeFan at decoded
  split at decoded
  · rename_i f _ go _ _ _
    have flags : (f &&& 0xFE) = 0 := masked_of_not_stray known
    have place : (go &&& 0xCC) = 0 := masked_of_not_stray packed
    split at decoded
    · rename_i slot
      obtain rfl := eq_of_checked (p := FanEntry.inRange) decoded
      unfold encodeFan; dsimp only
      rw [flag_read flags, groupOrder_read place, optionByte_slot slot,
        halfOf_joinBytes, byteOf_toNat_self]
      rfl
    · cases decoded
  · cases decoded

theorem encodeDevice_decode {bs : List Byte} {e : DeviceEntry} (known : strayFlags .device bs = false)
    (decoded : decodeDevice bs = some e) : encodeDevice e = bs := by
  unfold decodeDevice at decoded
  split at decoded
  · rename_i u t r a w f h1 h0 g
    dsimp only at decoded
    split at decoded
    · rename_i passes
      cases decoded
      have rate : (f &&& 0xFE) = 0 := by
        have small : f.toNat ≤ 1 := by simpa using (Bool.and_eq_true_iff.mp passes).1
        clear passes known
        revert f; decide
      have release : (g &&& 0xFE) = 0 := masked_of_not_stray known
      have period : 250 * u.toNat / 250 = u.toNat := Nat.mul_div_cancel_left _ (by decide)
      unfold encodeDevice; dsimp only
      rw [flag_read rate, flag_read release, halfOf_joinBytes, period, byteOf_toNat_self, byteOf_toNat_self,
        byteOf_toNat_self, byteOf_toNat_self, byteOf_toNat_self]
      rfl
    · cases decoded
  · cases decoded

/-- R156, R182: a record appended for an entry with no unassigned bit is laid out as the entry was. -/
theorem decodeChange_eq_some {t : TableId} {index : Nat} {bs : List Byte} {c : Change} (known : strayFlags t bs = false)
    (packed : strayPacked t bs = false) (decoded : decodeChange t index bs = some c) :
    c.InRange ∧ c.table = t ∧ c.index = index ∧ c.bytes = bs := by
  refine ⟨decodeChange_inRange decoded, ?_⟩
  have own : ∀ {n : Nat} {i : Fin n}, finOf n index = some i → i.val = index := fun read => by
    unfold finOf at read; split at read <;> cases read; rfl
  cases t with
  | bindings =>
    obtain ⟨i, is, entry⟩ := Option.bind_eq_some_iff.mp decoded
    obtain ⟨e, read, rfl⟩ := Option.map_eq_some_iff.mp entry
    exact ⟨rfl, own is, encodeBinding_decode known read⟩
  | zones =>
    obtain ⟨i, is, entry⟩ := Option.bind_eq_some_iff.mp decoded
    obtain ⟨e, read, rfl⟩ := Option.map_eq_some_iff.mp entry
    exact ⟨rfl, own is, encodeZone_decode known packed read⟩
  | groups =>
    obtain ⟨i, is, entry⟩ := Option.bind_eq_some_iff.mp decoded
    obtain ⟨e, read, rfl⟩ := Option.map_eq_some_iff.mp entry
    exact ⟨rfl, own is, encodeGroup_decode read⟩
  | fans =>
    obtain ⟨i, is, entry⟩ := Option.bind_eq_some_iff.mp decoded
    obtain ⟨e, read, rfl⟩ := Option.map_eq_some_iff.mp entry
    exact ⟨rfl, own is, encodeFan_decode known packed read⟩
  | device =>
    unfold decodeChange at decoded; dsimp only at decoded
    split at decoded
    · rename_i first
      obtain ⟨e, read, rfl⟩ := Option.map_eq_some_iff.mp decoded
      exact ⟨rfl, first.symm, encodeDevice_decode known read⟩
    · cases decoded

theorem decodeChange_bytes {c : Change} (range : c.InRange) : decodeChange c.table c.index c.bytes = some c := by
  cases c with
  | binding i e =>
    show (finOf 64 i.val).bind _ = _
    rw [finOf_val]; exact congrArg (Option.map _) (decodeBinding_encode range)
  | zone i e =>
    show (finOf 16 i.val).bind _ = _
    rw [finOf_val]; exact congrArg (Option.map _) (decodeZone_encode range)
  | group i e =>
    show (finOf 4 i.val).bind _ = _
    rw [finOf_val]; exact congrArg (Option.map _) (decodeGroup_encode range)
  | fan i e =>
    show (finOf 8 i.val).bind _ = _
    rw [finOf_val]; exact congrArg (Option.map _) (decodeFan_encode range)
  | device e => exact congrArg (Option.map _) (decodeDevice_encode range)

theorem bytes_length (c : Change) : c.bytes.length = entrySize c.table := by cases c <;> rfl

/-! ## The layouts have no unassigned bit -/

theorem bindingFlags_known (valid : Bool) (kind : BindingKind) (role : Role) :
    (byteOf (valid.toNat + 2 * kind.code + 8 * role.code) &&& 0xF0) = 0 := by
  cases valid <;> cases kind <;> cases role <;> decide

theorem zoneFlags_known (enabled latch : Bool) (mask : BitVec 4) :
    (byteOf (enabled.toNat + 2 * latch.toNat + 16 * mask.toNat) &&& 0x0C) = 0 := by
  revert enabled latch mask; decide

theorem voteAndWindow_known {v w : Nat} (hv : v < 8) (hw : w < 8) : (byteOf (v + 16 * w) &&& 0x88) = 0 := by
  have all : ∀ v w : Fin 8, (byteOf (v.val + 16 * w.val) &&& 0x88) = 0 := by decide
  exact all ⟨v, hv⟩ ⟨w, hw⟩

theorem groupOrder_known (g o : Fin 4) : (byteOf (g.val + 16 * o.val) &&& 0xCC) = 0 := by revert g o; decide

theorem flag_known (b : Bool) : (flagByte b &&& 0xFE) = 0 := by cases b <;> decide

theorem bytes_known {c : Change} (range : c.InRange) : strayFlags c.table c.bytes = false ∧ strayPacked c.table c.bytes = false := by
  cases c with
  | binding i e => exact ⟨bne_eq_false_iff_eq.mpr (bindingFlags_known e.valid e.kind e.role), rfl⟩
  | zone i e =>
    have bounds : e.inRange = true := range
    simp only [ZoneEntry.inRange, decide_eq_true_eq] at bounds
    obtain ⟨-, -, -, -, -, vote, -, window, -⟩ := bounds
    exact ⟨bne_eq_false_iff_eq.mpr (zoneFlags_known e.enabled e.latch e.groupMask),
      bne_eq_false_iff_eq.mpr (voteAndWindow_known (by omega) (by omega))⟩
  | group i e => exact ⟨rfl, rfl⟩
  | fan i e => exact ⟨bne_eq_false_iff_eq.mpr (flag_known e.enabled), bne_eq_false_iff_eq.mpr (groupOrder_known e.group e.order)⟩
  | device e => exact ⟨bne_eq_false_iff_eq.mpr (flag_known e.releaseEnable), rfl⟩

theorem entryWellFormed_of_known {t : TableId} {bs : List Byte} (known : strayFlags t bs = false ∧ strayPacked t bs = false) :
    entryWellFormed t bs = true := by
  obtain ⟨flags, packed⟩ := known
  unfold entryWellFormed; rw [flags, packed]; rfl

theorem entryWellFormed_stray {t : TableId} {bs : List Byte} (stray : strayFlags t bs = true) : entryWellFormed t bs = false := by
  unfold entryWellFormed; rw [stray]; rfl

/-! ## A block of entries -/

theorem pieces_flatten {k : Nat} {es : List (List Byte)} (sized : ∀ e ∈ es, e.length = k) : pieces k es.length es.flatten = es := by
  induction es with
  | nil => rfl
  | cons e es ih =>
    obtain ⟨first, rest⟩ := List.forall_mem_cons.mp sized
    show (e ++ es.flatten).take k :: pieces k es.length ((e ++ es.flatten).drop k) = _
    rw [List.take_left' first, List.drop_left' first, ih rest]

theorem flatten_length {k : Nat} {es : List (List Byte)} (sized : ∀ e ∈ es, e.length = k) : es.flatten.length = es.length * k := by
  rw [List.length_flatten, List.map_congr_left (g := fun _ => k) sized]; simp

theorem pieces_mem {k n j : Nat} (bs : List Byte) (h : j < n) : (bs.drop (k * j)).take k ∈ pieces k n bs := by
  induction n generalizing j bs with
  | zero => omega
  | succ n ih =>
    cases j with
    | zero => exact List.mem_cons_self
    | succ j =>
      refine List.mem_cons_of_mem _ ?_
      have rest := ih (bs.drop k) (Nat.lt_of_succ_lt_succ h)
      rwa [List.drop_drop, show k + k * j = k * (j + 1) by ring] at rest

theorem takeEntries_full {t : TableId} {index : Nat} {es : List (List Byte)} {list : List Change} {c : Change}
    (full : ¬ list.length < 32) (e : List Byte) (decoded : decodeChange t index e = some c) :
    takeEntries t index (e :: es) list = (list, 0, .listFull) := by
  unfold takeEntries; rw [decoded]; exact if_neg full

theorem takeEntries_taken {t : TableId} {index : Nat} {es : List (List Byte)} {list : List Change} {c : Change}
    (room : list.length < 32) (e : List Byte) (decoded : decodeChange t index e = some c) :
    takeEntries t index (e :: es) list =
      let r := takeEntries t (index + 1) es (list ++ [c])
      (r.1, r.2.1 + 1, r.2.2) := by
  rw [takeEntries, decoded]; exact if_pos room

/-- R156: the entries of records in range, for indexes that follow one another, are taken while the list has room. -/
theorem takeEntries_bytes {t : TableId} {start : Nat} {cs : List Change} (range : ∀ c ∈ cs, c.InRange ∧ c.table = t)
    (index : ∀ (k : Nat) (h : k < cs.length), (cs[k]'h).index = start + k) {list : List Change}
    (room : cs = [] ∨ list.length + cs.length ≤ 32) (es : List (List Byte)) :
    takeEntries t start (cs.map Change.bytes ++ es) list =
      let r := takeEntries t (start + cs.length) es (list ++ cs)
      (r.1, r.2.1 + cs.length, r.2.2) := by
  induction cs generalizing start list with
  | nil => simp
  | cons c cs ih =>
    obtain ⟨⟨first, table⟩, rest⟩ := List.forall_mem_cons.mp range
    have room : list.length + (cs.length + 1) ≤ 32 := room.resolve_left nofun
    have own : c.index = start := index 0 (Nat.succ_pos _)
    have decoded : decodeChange t start c.bytes = some c := by rw [← table, ← own]; exact decodeChange_bytes first
    have later : ∀ (k : Nat) (h : k < cs.length), (cs[k]'h).index = start + 1 + k := fun k h =>
      (index (k + 1) (Nat.succ_lt_succ h)).trans (by omega)
    show takeEntries t start (c.bytes :: (cs.map Change.bytes ++ es)) list = _
    rw [takeEntries_taken (by omega) _ decoded, ih rest later (.inr (by simp only [List.length_append, List.length_singleton]; omega))]
    simp only [List.append_assoc, List.singleton_append, List.length_cons, Nat.add_assoc, Nat.add_comm 1]

/-! ## The work of WRITE-TABLE -/

/-- R170: the form of a WRITE-TABLE block of a table. -/
def blockFormed (tb : TableId) (n : Byte) (body : List Byte) : Prop :=
  1 ≤ n.toNat ∧ n.toNat ≤ 8 ∧ body.length = n.toNat * entrySize tb ∧
    (pieces (entrySize tb) n.toNat body).all (entryWellFormed tb) = true

section
variable {s : State} {tb : TableId} {start n : Byte} {body : List Byte}

theorem writeTableWork_unformed (h : ¬ blockFormed tb n body) :
    writeTableWork (byteOf tb.code :: start :: n :: body) s = answerOnly .badRequest s := by
  unfold writeTableWork; dsimp only
  rw [byteOf_toNat (by cases tb <;> decide), tableOfCode_code]
  exact if_neg h

theorem writeTableWork_formed (h : blockFormed tb n body) :
    writeTableWork (byteOf tb.code :: start :: n :: body) s =
      if tb = .device ∧ s.mode ≠ .standby then answerOnly .notNow s
      else appendBlock tb start.toNat n.toNat (pieces (entrySize tb) n.toNat body) s := by
  unfold writeTableWork; dsimp only
  rw [byteOf_toNat (by cases tb <;> decide), tableOfCode_code]
  exact if_pos h

end

/-- The entries of a block, each of its table's size and with no unassigned bit, are a block of the right form, and are read
one by one. -/
theorem blockFormed_flatten {tb : TableId} {es : List (List Byte)} (some : 1 ≤ es.length) (few : es.length ≤ 8)
    (known : ∀ e ∈ es, e.length = entrySize tb ∧ strayFlags tb e = false ∧ strayPacked tb e = false) :
    blockFormed tb (byteOf es.length) es.flatten ∧ pieces (entrySize tb) (byteOf es.length).toNat es.flatten = es := by
  have count : (byteOf es.length).toNat = es.length := byteOf_toNat (by omega)
  have cut : pieces (entrySize tb) es.length es.flatten = es := pieces_flatten fun e mem => (known e mem).1
  unfold blockFormed
  rw [count, cut]
  exact ⟨⟨some, few, flatten_length fun e mem => (known e mem).1,
    List.all_eq_true.mpr fun e mem => entryWellFormed_of_known (known e mem).2⟩, rfl⟩

/-- The size of a whole WRITE-TABLE payload (R168). -/
theorem block_short {tb : TableId} {es : List (List Byte)} (few : es.length ≤ 8) (sized : ∀ e ∈ es, e.length = entrySize tb)
    (a b c : Byte) : (a :: b :: c :: es.flatten).length ≤ 120 := by
  have size : entrySize tb ≤ 13 := by cases tb <;> decide
  have all : es.length * entrySize tb ≤ 8 * 13 := Nat.mul_le_mul few size
  simp only [List.length_cons, flatten_length sized]
  omega

theorem bytes_block {tb : TableId} {cs : List Change} (range : ∀ c ∈ cs, c.InRange ∧ c.table = tb) :
    ∀ e ∈ cs.map Change.bytes, e.length = entrySize tb ∧ strayFlags tb e = false ∧ strayPacked tb e = false := by
  intro e mem
  obtain ⟨c, own, rfl⟩ := List.mem_map.mp mem
  obtain ⟨inRange, rfl⟩ := range c own
  exact ⟨bytes_length c, bytes_known inRange⟩

/-- R156, R158: the answer to a block of the right form, which a DEVICE entry has outside STANDBY alone. -/
theorem exec_writeTable_block {s : State} (listening : s.Listening) (src : Byte) {tb : TableId} {start : Nat} {es : List (List Byte)}
    (some : 1 ≤ es.length) (few : es.length ≤ 8) (low : start < 256) (standby : tb = .device → s.mode = .standby)
    (known : ∀ e ∈ es, e.length = entrySize tb ∧ strayFlags tb e = false ∧ strayPacked tb e = false) :
    exec (.writeTable s.station (s.asked 0x50 src (byteOf tb.code :: byteOf start :: byteOf es.length :: es.flatten))) s =
      .next (answered 0x50 src (appendBlock tb start es.length es s).result (appendBlock tb start es.length es s).data
        (appendBlock tb start es.length es s).state) := by
  obtain ⟨formed, cut⟩ := blockFormed_flatten some few known
  have short := block_short few (fun e mem => (known e mem).1) (byteOf tb.code) (byteOf start) (byteOf es.length)
  have now : ¬ (tb = .device ∧ s.mode ≠ .standby) := fun ⟨device, other⟩ => other (standby device)
  refine congrArg Host.Outcome.next ((answerRequest_asked listening 0x50 src short _).trans ?_)
  rw [writeTableWork_formed formed, if_neg now, cut, byteOf_toNat low, byteOf_toNat (by omega)]

theorem change_index_lt (c : Change) : c.index < 64 := by
  cases c with
  | binding i _ => exact i.isLt
  | zone i _ => exact i.isLt.trans (by decide)
  | group i _ => exact i.isLt.trans (by decide)
  | fan i _ => exact i.isLt.trans (by decide)
  | device _ => exact Nat.zero_lt_succ _

/-- R156: as many entries as the list has room for are taken. -/
theorem takeEntries_room {t : TableId} {start : Nat} {cs : List Change} (range : ∀ c ∈ cs, c.InRange ∧ c.table = t)
    (index : ∀ (k : Nat) (h : k < cs.length), (cs[k]'h).index = start + k) {list : List Change} (bounded : list.length ≤ 32) :
    takeEntries t start (cs.map Change.bytes) list =
      if cs.length ≤ 32 - list.length then (list ++ cs, cs.length, .whole)
      else (list ++ cs.take (32 - list.length), 32 - list.length, .listFull) := by
  by_cases fits : cs.length ≤ 32 - list.length
  · have all := takeEntries_bytes range index (list := list) (.inr (by omega)) []
    rw [List.append_nil] at all
    rw [all, if_pos fits]; simp [takeEntries]
  · -- the entries that fit, then the first for which there is no room
    rw [if_neg fits]
    have room : 32 - list.length < cs.length := by omega
    have short : (cs.take (32 - list.length)).length = 32 - list.length := List.length_take_of_le room.le
    have taken := takeEntries_bytes (cs := cs.take (32 - list.length)) (fun c mem => range c (List.mem_of_mem_take mem))
      (fun k h => by rw [List.getElem_take]; exact index k _) (list := list) (.inr (by omega))
      ((cs.drop (32 - list.length)).map Change.bytes)
    obtain ⟨inRange, table⟩ := range _ (List.getElem_mem room)
    have decoded := decodeChange_bytes inRange
    rw [table, index _ room] at decoded
    have full : ¬ (list ++ cs.take (32 - list.length)).length < 32 := by rw [List.length_append, short]; omega
    rw [← List.map_append, List.take_append_drop, short, List.drop_eq_getElem_cons room, List.map_cons,
      takeEntries_full full _ decoded] at taken
    rw [taken]; simp

/-- Settles O30. -/
theorem writeTableAppendsItsEntries : Obligations.WriteTableAppendsItsEntries := by
  intro s src tb start cs listening some few range index standby bounded n room
  have low : start < 256 := by
    have first : (cs[0]'some).index = start := index 0 some
    have := change_index_lt (cs[0]'some)
    omega
  have count : (cs.map Change.bytes).length = n := List.length_map _
  have block := exec_writeTable_block listening src (by rw [count]; exact some) (by rw [count]; exact few) low standby
    (bytes_block range)
  rw [count] at block
  refine block.trans (congrArg _ ?_)
  unfold appendBlock
  rw [takeEntries_room range index bounded]
  by_cases fits : n ≤ room
  · rw [if_pos fits, if_pos fits]
  · rw [if_neg fits, if_neg fits]

/-! ## Refused blocks -/

theorem stray_of_high {b : Byte} (h : 16 ≤ b.toNat) : ((b &&& 0xF0) != 0) = true := by revert b; decide

theorem stray_of_unassigned {b : Byte} (h : b.getLsbD 2 = true ∨ b.getLsbD 3 = true) : ((b &&& 0x0C) != 0) = true := by
  revert b; decide

theorem stray_of_flag {b : Byte} (h : 2 ≤ b.toNat) : ((b &&& 0xFE) != 0) = true := by revert b; decide

theorem getD_piece {bs : List Byte} {k n i : Nat} (h : i < k) : ((bs.drop n).take k).getD i 0 = bs.getD (n + i) 0 := by
  rw [List.getD_eq_getElem?_getD, List.getD_eq_getElem?_getD, List.getElem?_take_of_lt h, List.getElem?_drop]

/-- R156: a block stops at the first entry that decodes to no record. -/
theorem appendBlock_stops {t : TableId} {start n : Nat} {cs : List Change} (range : ∀ c ∈ cs, c.InRange ∧ c.table = t)
    (index : ∀ (k : Nat) (h : k < cs.length), (cs[k]'h).index = start + k) {s : State}
    (room : cs = [] ∨ s.changes.length + cs.length ≤ 32) {failing : List Byte} (undecoded : decodeChange t (start + cs.length) failing = none) (rest : List (List Byte)) :
    appendBlock t start n (cs.map Change.bytes ++ failing :: rest) s =
      { state := { s with changes := s.changes ++ cs }, result := .badIndex, data := [byteOf cs.length, byteOf cs.length] } := by
  have stopped : takeEntries t (start + cs.length) (failing :: rest) (s.changes ++ cs) = (s.changes ++ cs, 0, .atEntry) := by
    unfold takeEntries; rw [undecoded]
  unfold appendBlock
  rw [takeEntries_bytes range index room, stopped]
  simp

/-- R156: the entries before the first that decodes to no record stay in the list. -/
theorem exec_writeTable_stops {s : State} (listening : s.Listening) (src : Byte) {t : TableId} {start : Nat} {cs : List Change}
    {failing : List Byte} {rest : List (List Byte)} (low : start < 256) (range : ∀ c ∈ cs, c.InRange ∧ c.table = t)
    (index : ∀ (k : Nat) (h : k < cs.length), (cs[k]'h).index = start + k) (standby : t = .device → s.mode = .standby)
    (room : cs = [] ∨ s.changes.length + cs.length ≤ 32) (few : cs.length + 1 + rest.length ≤ 8)
    (known : ∀ bs ∈ failing :: rest, bs.length = entrySize t ∧ strayFlags t bs = false ∧ strayPacked t bs = false)
    (undecoded : decodeChange t (start + cs.length) failing = none) :
    exec (.writeTable s.station (s.asked 0x50 src ([byteOf t.code, byteOf start, byteOf (cs.length + 1 + rest.length)] ++
        cs.flatMap Change.bytes ++ failing ++ rest.flatten))) s =
      .next (answered 0x50 src .badIndex [byteOf cs.length, byteOf cs.length] { s with changes := s.changes ++ cs }) := by
  have count : (cs.map Change.bytes ++ failing :: rest).length = cs.length + 1 + rest.length := by
    simp only [List.length_append, List.length_map, List.length_cons]; omega
  have block := exec_writeTable_block listening src (es := cs.map Change.bytes ++ failing :: rest) (by omega) (by omega) low standby
    (fun e mem => (List.mem_append.mp mem).elim (bytes_block range e) (known e))
  have bytes : (cs.map Change.bytes ++ failing :: rest).flatten = cs.flatMap Change.bytes ++ (failing ++ rest.flatten) := by
    rw [List.flatten_append]; rfl
  rw [count, bytes, appendBlock_stops range index room undecoded] at block
  rw [List.append_assoc, List.append_assoc]
  exact block

theorem tableOfCode_eq {n : Nat} {t : TableId} (h : tableOfCode n = some t) : t.code = n := by
  unfold tableOfCode at h
  grind [TableId.code]

/-- Settles O31. -/
theorem writeTableAndHoldAnswers : Obligations.WriteTableAndHoldAnswers := by
  intro s src listening
  refine ⟨fun e range mode => ?_, fun tb start n body small bad => ?_, fun start e bad timeout count runOn speed map => ?_,
    fun t start n body k sized few before stray => ?_, fun t start cs failing rest low range index standby room few known unlike => ?_,
    ?_, ?_, fun b high => ?_⟩
  · have formed := (blockFormed_flatten (tb := .device) (es := [encodeDevice e]) (Nat.le_refl 1)
      (Nat.le_of_ble_eq_true rfl) (List.forall_mem_singleton.mpr ⟨rfl, bytes_known (c := .device e) range⟩)).1
    have work : writeTableWork ([5, 0, 1] ++ encodeDevice e) s = answerOnly .notNow s := by
      rw [List.flatten_singleton] at formed
      exact (writeTableWork_formed formed).trans (if_pos ⟨rfl, mode⟩)
    exact congrArg _ (refused_request listening (Nat.le_of_ble_eq_true rfl) work)
  · have short : (tb :: start :: n :: body).length ≤ 120 := by simp only [List.length_cons]; omega
    refine congrArg _ (refused_request listening short ?_)
    by_cases known : ∃ t : TableId, tb = byteOf t.code
    · obtain ⟨t, rfl⟩ := known
      refine writeTableWork_unformed fun ⟨_, few, sized, _⟩ => ?_
      rcases bad with zero | beyond | empty | many | ⟨u, same, unsized⟩
      · cases t <;> exact absurd zero (by decide)
      · cases t <;> exact absurd beyond (by decide)
      · omega
      · omega
      · have table : t = u := by
          have code := congrArg (fun b : Byte => tableOfCode b.toNat) same
          rw [byteOf_toNat (by cases t <;> decide), byteOf_toNat (by cases u <;> decide), tableOfCode_code, tableOfCode_code] at code
          exact Option.some.inj code
        exact unsized (table ▸ sized)
    · have unknown : tableOfCode tb.toNat = none := by
        cases is : tableOfCode tb.toNat with
        | none => rfl
        | some t => exact absurd ⟨t, by rw [tableOfCode_eq is, byteOf_toNat_self]⟩ known
      unfold writeTableWork; dsimp only; rw [unknown]
  · have undecoded : decodeChange .groups (start.toNat + 0) (encodeGroup e) = none := by
      show (finOf 4 start.toNat).bind _ = none
      rcases bad with beyond | outside
      · rw [finOf_eq_none.mpr beyond]; rfl
      · rw [decodeGroup_fits map speed count runOn timeout, outside]
        cases finOf 4 start.toNat <;> rfl
    have stops := exec_writeTable_stops listening src (t := .groups) (cs := []) (rest := []) start.isLt nofun nofun nofun (.inl rfl)
      (Nat.le_of_ble_eq_true rfl) (List.forall_mem_singleton.mpr ⟨rfl, rfl, rfl⟩) undecoded
    rw [byteOf_toNat_self, List.append_nil] at stops
    exact stops
  · have formed : ¬ blockFormed t n body := fun ⟨_, _, _, all⟩ => by
      have piece := List.all_eq_true.mp all _ (pieces_mem body before)
      have at_ : ∀ {i : Nat}, i < entrySize t → ((body.drop (entrySize t * k)).take (entrySize t)).getD i 0 =
          body.getD (k * entrySize t + i) 0 := fun h => by rw [getD_piece h, Nat.mul_comm]
      have flagged : strayFlags t ((body.drop (entrySize t * k)).take (entrySize t)) = true := by
        cases t with
        | bindings => exact (congrArg (fun b : Byte => (b &&& 0xF0) != 0) (at_ (by decide))).trans (stray_of_high stray)
        | zones => exact (congrArg (fun b : Byte => (b &&& 0x0C) != 0) (at_ (by decide))).trans (stray_of_unassigned stray)
        | groups => exact stray.elim
        | fans => exact (congrArg (fun b : Byte => (b &&& 0xFE) != 0) (at_ (by decide))).trans (stray_of_flag stray)
        | device => exact (congrArg (fun b : Byte => (b &&& 0xFE) != 0) (at_ (by decide))).trans (stray_of_flag stray)
      rw [entryWellFormed_stray flagged] at piece
      cases piece
    have short : (byteOf t.code :: start :: n :: body).length ≤ 120 := by
      have size : entrySize t ≤ 13 := by cases t <;> decide
      have all : n.toNat * entrySize t ≤ 8 * 13 := Nat.mul_le_mul few size
      simp only [List.length_cons]; omega
    exact congrArg _ (refused_request listening short (writeTableWork_unformed formed))
  · refine exec_writeTable_stops listening src low range index standby (.inr room) few known ?_
    obtain ⟨-, flags, packed⟩ := known failing List.mem_cons_self
    cases decoded : decodeChange t (start + cs.length) failing with
    | none => rfl
    | some c =>
      obtain ⟨inRange, table, own, same⟩ := decodeChange_eq_some flags packed decoded
      exact absurd same (unlike c inRange table own)
  · exact congrArg _ ((answerAndResume_asked listening 0x51 src (Nat.le_of_ble_eq_true rfl) holdWork).trans rfl)
  · exact congrArg _ ((answerAndResume_asked listening 0x51 src (Nat.le_of_ble_eq_true rfl) holdWork).trans rfl)
  · have one : b ≠ 1 := fun is => by subst is; exact absurd high (by decide)
    have zero : b ≠ 0 := fun is => by subst is; exact absurd high (by decide)
    refine congrArg _ (refused_resuming listening (Nat.le_of_ble_eq_true rfl) ?_)
    unfold holdWork; dsimp only
    rw [if_neg one, if_neg zero]

end Sys2Proof.Machine
end

section
/-! PROOFS. Overrides and FAN-RESET (O37, O38). -/

namespace Sys2Proof.Machine

/-- A completion that waits goes on after the reply is formed (log 1). -/
theorem resume_answered {s t : State} (work : t.work = s.work) (code src : Byte) (r : Result) (data : List Byte) :
    resume (answered code src r data t) = runWork s.work (answered code src r data t) := by
  show runWork t.work _ = _
  rw [work]

/-! ## Overrides (5.6) -/

/-- R90, R91, R93: what a changed stack leaves of the state, its hand-over judged and the outputs raised where they may be. -/
theorem changedStack_effects (g : Fin 4) (cs : List Context) (s : State) :
    let t := judgeVent (changeStack g cs s)
    t.groups[g].stack = cs ∧ t.groups[g].effective = effectiveOf s.mode { s.groups[g] with stack := cs } ∧
    HandOverJudged s t g ∧
    t.groups[g].demand = s.groups[g].demand ∧ t.groups[g].floor = s.groups[g].floor ∧
    t.groups[g].commanded = s.groups[g].commanded ∧ t.groups[g].runOn = s.groups[g].runOn ∧
    (∀ g' : Fin 4, g' ≠ g → t.groups[g'] = s.groups[g']) ∧ t.zones = s.zones ∧ t.channels = s.channels ∧
    t.tables = s.tables ∧ t.mode = s.mode ∧ t.segment = s.segment ∧ t.changes = s.changes := by
  intro t
  have own : t.groups[g] = _ := changeStack_own g cs s
  have frame : GroupFrame s t := (changeStack_groupFrame g cs s).trans (judgeVent_groupFrame _)
  have judged := changeStack_judged g cs s
  refine ⟨by rw [own], by rw [own], ?_, by rw [own], by rw [own], by rw [own], by rw [own], fun k other => changeStack_other other cs s,
    ?_, ?_, ?_, ?_, ?_, ?_⟩
  · obtain ⟨flag, posted, fans⟩ := judged
    exact ⟨flag, posted.congr rfl rfl rfl rfl rfl, fans⟩
  all_goals rw [frame]

theorem effectiveOf_cons (mode : Mode) (r : GroupRecord) (c : Context) (cs : List Context) :
    effectiveOf mode { r with stack := c :: cs } =
      if mode = .standby then 0 else if c.kind = .manual then r.floor else max c.stage r.floor := rfl

section
variable {s : State} {g k stage : Byte} {expiry tag : Half}

theorem pushWork_unknown (unknown : overrideOfCode k.toNat = none) :
    pushWork ([g, k, stage] ++ halfBytes expiry ++ halfBytes tag) s = answerOnly .badRequest s := by
  unfold pushWork halfBytes; dsimp only [List.cons_append, List.nil_append]
  rw [unknown]

theorem pushWork_high {kind : OverrideKind} (known : overrideOfCode k.toNat = some kind) (high : kind = .force ∧ 4 < stage.toNat) :
    pushWork ([g, k, stage] ++ halfBytes expiry ++ halfBytes tag) s = answerOnly .badRequest s := by
  unfold pushWork halfBytes; dsimp only [List.cons_append, List.nil_append]
  rw [known]; dsimp only
  rw [if_pos high]

theorem pushWork_beyond {kind : OverrideKind} (known : overrideOfCode k.toNat = some kind)
    (may : ¬ (kind = .force ∧ 4 < stage.toNat)) (beyond : 4 ≤ g.toNat) :
    pushWork ([g, k, stage] ++ halfBytes expiry ++ halfBytes tag) s = answerOnly .badIndex s := by
  unfold pushWork halfBytes; dsimp only [List.cons_append, List.nil_append]
  rw [known]; dsimp only
  rw [if_neg may, finOf_eq_none.mpr beyond]

/-- R90: a push on a group. -/
theorem pushWork_own {kind : OverrideKind} {g : Fin 4} (known : overrideOfCode k.toNat = some kind)
    (may : ¬ (kind = .force ∧ 4 < stage.toNat)) :
    pushWork ([byteOf g.val, k, stage] ++ halfBytes expiry ++ halfBytes tag) s =
      if 4 ≤ s.groups[g].stack.length then answerOnly .full s
      else
        { state := judgeVent (changeStack g ({ kind := kind, stage := contextStage kind stage.toNat s.groups[g].commanded
                                               expiry := expiry.toNat, tag := tag } :: s.groups[g].stack) s)
          result := .done, data := [byteOf (s.groups[g].stack.length + 1)] } := by
  unfold pushWork halfBytes; dsimp only [List.cons_append, List.nil_append]
  rw [known]; dsimp only
  rw [if_neg may, finOf_byteOf (by decide), joinBytes_halfBytes, joinBytes_halfBytes]

theorem overrideOfCode_unknown {n : Nat} (h : 3 ≤ n) : overrideOfCode n = none := by
  unfold overrideOfCode
  rw [if_neg (by omega), if_neg (by omega), if_neg (by omega)]

theorem overrideOfCode_known {b : Byte} (h : b.toNat < 3) : ∃ kind, overrideOfCode b.toNat = some kind ∧
    (kind = .force ↔ b = byteOf OverrideKind.force.code) := by
  have code : b.toNat = 0 ∨ b.toNat = 1 ∨ b.toNat = 2 := by omega
  rcases code with is | is | is <;>
    · obtain rfl : b = _ := by rw [← byteOf_toNat_self b, is]
      exact ⟨_, rfl, by decide⟩

end

/-- Settles O37. -/
theorem pushesAndPopsActOnTheTop : Obligations.PushesAndPopsActOnTheTop := by
  intro s src g listening
  refine ⟨fun k stage expiry tag small => ?_, fun group kind stage expiry tag => ?_, fun group beyond => ?_, fun empty => ?_,
    fun c cs top => ?_⟩
  · intro payload held
    have force : ¬ (k = .force ∧ 4 < stage.toNat) := fun ⟨is, high⟩ => Nat.not_lt.mpr (small is) high
    have known : overrideOfCode (byteOf k.code).toNat = some k := by
      rw [byteOf_toNat (by cases k <;> decide), overrideOfCode_code]
    have work := pushWork_own (s := s) (g := g) (expiry := expiry) (tag := tag) known force
    refine ⟨fun room => ?_, fun full => ?_⟩
    · have asked := answerAndResume_asked listening 0x61 src (payload := payload) (Nat.le_of_ble_eq_true rfl) pushWork
      obtain ⟨stack, effective, judged, demand, floor, commanded, runOn, others, zones, channels, tables, mode, segment, changes⟩ :=
        changedStack_effects g ({ kind := k, stage := contextStage k stage.toNat s.groups[g].commanded, expiry := expiry.toNat
                                  tag := tag } :: s.groups[g].stack) s
      have stageHeld : contextStage k stage.toNat s.groups[g].commanded = held := by cases k <;> rfl
      rw [work] at asked
      rw [if_neg (by omega)] at asked
      refine ⟨_, congrArg _ (asked.trans ?_), ?_, ?_, demand, floor, commanded, runOn, judged, others, zones, channels, tables, mode,
        segment, changes⟩
      · exact resume_answered ((changeStack_groupFrame g _ s).trans (judgeVent_groupFrame _)).line.1 _ _ _ _
      · rw [stack, stageHeld]
      · rw [effective, effectiveOf_cons]; dsimp only; rw [stageHeld]
    · refine congrArg _ (refused_resuming listening (Nat.le_of_ble_eq_true rfl) (work.trans ?_))
      exact if_pos full
  · intro payload refused badKind
    have answers : ∀ {r : Result}, pushWork payload s = answerOnly r s →
        exec (.pushOverride s.station (s.asked 0x61 src payload)) s = .next (refused r) :=
      fun work => congrArg _ (refused_resuming listening (Nat.le_of_ble_eq_true rfl) work)
    have ofKind : kind.toNat < 3 → ∃ k, overrideOfCode kind.toNat = some k ∧ (k = .force ∧ 4 < stage.toNat ↔ badKind) := fun low => by
      obtain ⟨k, known, force⟩ := overrideOfCode_known low
      exact ⟨k, known, by rw [force]; exact ⟨fun h => .inr h, fun h => h.resolve_left (by omega)⟩⟩
    refine ⟨fun bad => answers ?_, fun good beyond => answers ?_⟩
    · by_cases low : kind.toNat < 3
      · obtain ⟨k, known, is⟩ := ofKind low
        exact pushWork_high known (is.mpr bad)
      · exact pushWork_unknown (overrideOfCode_unknown (Nat.not_lt.mp low))
    · obtain ⟨k, known, is⟩ := ofKind (by omega)
      exact pushWork_beyond known (fun bad => good (is.mp bad)) beyond
  · exact congrArg _ (refused_resuming listening (Nat.le_of_ble_eq_true rfl) (withIndex_out beyond))
  · refine congrArg _ (refused_resuming listening (Nat.le_of_ble_eq_true rfl) ?_)
    rw [withIndex_own (by decide)]; unfold popWork; rw [empty]
  · have asked := answerAndResume_asked listening 0x62 src (payload := [byteOf g.val]) (Nat.le_of_ble_eq_true rfl) (withIndex 4 popWork)
    have work : popWork g s = { state := judgeVent (changeStack g cs s), result := .done, data := contextData c } := by
      unfold popWork; rw [top]
    rw [withIndex_own (by decide), work] at asked
    refine ⟨_, congrArg _ (asked.trans ?_), changedStack_effects g cs s⟩
    exact resume_answered ((changeStack_groupFrame g _ s).trans (judgeVent_groupFrame _)).line.1 _ _ _ _

/-! ## Run sets (6.2) -/

/-- R105: the run set selected, spelled out from the tables and the failure reasons. -/
theorem selectRunSet_spelled (s : State) (g : Fin 4) :
    selectRunSet s.tables s.fans g =
      (((List.finRange 4).flatMap fun o => (List.finRange 8).filter fun f =>
        (s.tables.fans[f].enabled && s.tables.fans[f].group == g && s.fans[f].reason == .none) &&
          s.tables.fans[f].order == o).take s.tables.groups[g].runCount) := by
  unfold selectRunSet eligibleFans enabledFans
  refine congrArg (List.take _) (List.flatMap_congr fun o _ => ?_)
  rw [List.filter_filter]
  exact List.filter_congr fun f _ => by ac_rfl

theorem groupEnabled_iff (ts : Tables) (g : Fin 4) :
    groupEnabled ts g = false ↔ ∀ f : Fin 8, ts.fans[f].enabled = true → ts.fans[f].group ≠ g := by
  unfold groupEnabled
  rw [Bool.not_eq_false', List.isEmpty_iff, List.eq_nil_iff_forall_not_mem]
  simp only [mem_enabledFans, not_and]

/-- R107: the condition a run set of `n` fans gives its group. -/
theorem conditionOf_spelled (ts : Tables) (g : Fin 4) (set : List (Fin 8)) :
    conditionOf ts g set.length =
      if ∀ f : Fin 8, ts.fans[f].enabled = true → ts.fans[f].group ≠ g then .disabled
      else if set = [] then .unavailable else if set.length < ts.groups[g].runCount then .degraded else .full := by
  unfold conditionOf
  by_cases disabled : groupEnabled ts g = false
  · rw [if_pos ((groupEnabled_iff ts g).mp disabled), disabled]; rfl
  · rw [if_neg fun h => disabled ((groupEnabled_iff ts g).mpr h)]
    simp only [List.length_eq_zero_iff]
    simp [disabled]

/-- R107: a condition that changes is posted, and the outputs follow. -/
theorem changeCondition_effects (g : Fin 4) (s : State) :
    let c := conditionOf s.tables g s.groups[g].runSet.length
    (c = s.groups[g].condition → changeCondition g s = s) ∧
    (c ≠ s.groups[g].condition → Posted s (changeCondition g s) .groupCondition g.val
      (detailOf (c.code + 16 * s.groups[g].condition.code) s.groups[g].runSet.length)) := by
  intro c
  refine ⟨fun same => if_pos same, fun differs => ?_⟩
  have eq : changeCondition g s = _ := if_neg differs
  rw [eq]
  have stored : QueueGrows s (setGroup g { s.groups[g] with condition := c } s) := .of_same rfl rfl
  exact ((posted_post _ _ _ _).after stored).then (judgeAlarm_calm _).grows

theorem actOnMembers_fanFrame (g : Fin 4) (s : State) :
    FanFrame (setGroup g { s.groups[g] with runSet := selectRunSet s.tables s.fans g } s) (actOnMembers g s) :=
  forEachFree_fanFrame (fun f => actOnMember_fanFrame g _ f) _

/-- R107: what a recomputed run set leaves of the outputs, and the event of its condition. -/
theorem recomputeRunSet_condition (g : Fin 4) (s : State) :
    let set := selectRunSet s.tables s.fans g
    let c := conditionOf s.tables g set.length
    (c = s.groups[g].condition → (recomputeRunSet g s).outputs = s.outputs) ∧
    (c ≠ s.groups[g].condition → Posted s (recomputeRunSet g s) .groupCondition g.val
      (detailOf (c.code + 16 * s.groups[g].condition.code) set.length)) := by
  intro set c
  have frame := actOnMembers_fanFrame g s
  have group : (actOnMembers g s).groups[g] = { s.groups[g] with runSet := set } := by
    have groups : (actOnMembers g s).groups = (setGroup g { s.groups[g] with runSet := set } s).groups := by rw [frame]
    rw [groups, groups_setGroup, if_pos rfl]
  have tables : (actOnMembers g s).tables = s.tables := by rw [frame]; rfl
  have followed := changeCondition_effects g (actOnMembers g s)
  dsimp only at followed
  rw [group, tables] at followed
  obtain ⟨same, differs⟩ := followed
  rw [recomputeRunSet_eq]
  refine ⟨fun is => ?_, fun is => (differs is).after (actOnMembers_fans g s).2.2⟩
  rw [same is, actOnMembers_outputs]

/-- R113: a FAILED fan is reset. -/
def resetFan (f : Fin 8) (s : State) : State := changeFan f { s.fans[f] with state := .off, reason := .none } s

theorem resetFan_fans (f : Fin 8) (s : State) :
    (resetFan f s).fans = s.fans.set f { s.fans[f] with state := .off, reason := .none } := by
  ext k hk
  have written : (resetFan f s).fans[k] = _ := changeFan_fans f ⟨k, hk⟩ _ s
  rw [written, Vector.getElem_set]; simp only [Fin.ext_iff]; rfl

theorem fanResetWork_failed {s : State} {f : Fin 8} (failed : s.fans[f].state = .failed) :
    fanResetWork f s = answerOnly .done (judgeFans (recomputeRunSet s.tables.fans[f].group (resetFan f s))) := by
  unfold fanResetWork; rw [if_pos failed]; rfl

theorem fanResetWork_other {s : State} {f : Fin 8} (other : s.fans[f].state ≠ .failed) :
    fanResetWork f s = answerOnly .done s := by
  unfold fanResetWork; rw [if_neg other]

theorem startedFan_state (s : State) (f : Fin 8) :
    (startedFan s f).state = if s.tables.fans[f].airflowSlot = none then .running else .starting := rfl

/-- R113: the reset fan and its group once the run set has been recomputed. -/
theorem resetFan_recomputed (f : Fin 8) (s : State) :
    let g := s.tables.fans[f].group
    let t := recomputeRunSet g (resetFan f s)
    let set := selectRunSet s.tables (s.fans.set f { s.fans[f] with state := .off, reason := .none }) g
    t.fans[f].reason = .none ∧
    (if f ∈ set ∧ f ∉ s.groups[g].runSet ∧ s.groups[g].handOver = false ∧ 0 < s.groups[g].commanded
      then t.fans[f].state = (if s.tables.fans[f].airflowSlot.isSome then .starting else .running)
      else t.fans[f].state = .off) ∧
    t.groups[g] = { s.groups[g] with runSet := set, condition := conditionOf s.tables g set.length } ∧
    ∀ k : Fin 4, k ≠ g → t.groups[k] = s.groups[k] := by
  intro g t set
  have reset : FanFrame s (resetFan f s) := changeFan_fanFrame f _ s
  have tables : (resetFan f s).tables = s.tables := by rw [reset]
  have before : (resetFan f s).groups = s.groups := by rw [reset]
  have own : (resetFan f s).fans[f] = { s.fans[f] with state := .off, reason := .none } := (changeFan_fans f f _ s).trans (if_pos rfl)
  have groups : t.groups = _ := recomputeRunSet_groups g (resetFan f s)
  have fan : t.fans[f] = _ := (recomputeRunSet_fans g (resetFan f s)).1 f
  have selected : selectRunSet (resetFan f s).tables (resetFan f s).fans g = set := by rw [tables, resetFan_fans]
  rw [selected, tables, before] at groups
  rw [selected, before] at fan
  unfold movedFan at fan
  rw [own, before, if_neg (by rintro ⟨-, -, h | h⟩ <;> cases h)] at fan
  refine ⟨?_, ?_, ?_, fun k other => ?_⟩
  · rw [fan]; split
    · unfold startedFan; rw [own]
    · rfl
  · by_cases starts : f ∈ set ∧ f ∉ s.groups[g].runSet ∧ s.groups[g].handOver = false ∧ 0 < s.groups[g].commanded
    · obtain ⟨now, fresh, flag, above⟩ := starts
      rw [if_pos ⟨now, fresh, flag, above⟩, fan, if_pos ⟨fresh, now, rfl, flag, above⟩]
      rw [startedFan_state, tables]
      cases s.tables.fans[f].airflowSlot <;> rfl
    · rw [if_neg starts, fan, if_neg fun ⟨fresh, now, _, flag, above⟩ => starts ⟨now, fresh, flag, above⟩]
  · rw [groups]; simp
  · have differs : ¬ g.val = k.val := fun is => other (Fin.ext is).symm
    rw [groups]; simp [differs]

/-- Settles O38. -/
theorem fanResetReturnsTheFan : Obligations.FanResetReturnsTheFan := by
  refine ⟨fun s g => ?_, fun s src f listening => ⟨fun other => ?_, fun failed => ?_, fun b beyond => ?_⟩⟩
  · intro fits eligible count old new condition t
    have selected : selectRunSet s.tables s.fans g = new := selectRunSet_spelled s g
    have conditioned : conditionOf s.tables g new.length = condition := conditionOf_spelled s.tables g new
    have frame : GroupFrame s t := recomputeRunSet_groupFrame g s
    have groups : t.groups = _ := recomputeRunSet_groups g s
    obtain ⟨fans, posted⟩ := recomputeRunSet_fans g s
    obtain ⟨same, differs⟩ := recomputeRunSet_condition g s
    rw [selected, conditioned] at same differs groups
    refine ⟨selected, conditioned, ?_, same, posted, differs, fun f => ?_⟩
    · rw [← groups]; exact frame
    · rw [← selected]; exact fans f
  · refine congrArg _ (refused_resuming listening (Nat.le_of_ble_eq_true rfl) ?_)
    rw [withIndex_own (by decide), fanResetWork_other other]
  · intro g
    have asked := answerAndResume_asked listening 0x63 src (payload := [byteOf f.val]) (Nat.le_of_ble_eq_true rfl)
      (withIndex 8 fanResetWork)
    rw [withIndex_own (by decide), fanResetWork_failed failed] at asked
    have plain : ∀ (r : Result) (u : State), (answerOnly r u).result = r ∧ (answerOnly r u).data = [] ∧ (answerOnly r u).state = u :=
      fun _ _ => ⟨rfl, rfl, rfl⟩
    rw [(plain _ _).1, (plain _ _).2.1, (plain _ _).2.2] at asked
    have frame : GroupFrame s (recomputeRunSet g (resetFan f s)) :=
      (changeFan_fanFrame f _ s).group.trans (recomputeRunSet_groupFrame g _)
    obtain ⟨reason, state, own, others⟩ := resetFan_recomputed f s
    generalize recomputeRunSet g (resetFan f s) = u at asked frame reason state own others
    refine ⟨_, congrArg _ (asked.trans (resume_answered (by rw [judgeFans_work, frame]) _ _ _ _)), reason, by rw [judgeFans_groups, own],
      ?_, by rw [judgeFans_groups, own], by rw [judgeFans_groups, own], others, ?_, ?_, ?_, ?_, ?_, ?_⟩
    · rw [judgeFans_groups, own]; exact state
    all_goals rw [judgeFans_groupFrame, frame]
  · exact congrArg _ (refused_resuming listening (Nat.le_of_ble_eq_true rfl) (withIndex_out beyond))

end Sys2Proof.Machine
end

section
/-! PROOFS. Frames of both segments as they are received, and the point records of a READING (O9). -/

namespace Sys2Proof.Machine

/-! ## Receptions (R128, R129, R168) -/

theorem receive_crcError {limit : Nat} {f : Frame} (fits : f.payload.length ≤ limit) (small : limit < 256) {hi lo : Byte}
    (wrong : joinBytes hi lo ≠ crc (frameBody f)) : receive limit (frameBody f ++ [hi, lo]) = .crcError := by
  have len : (byteOf f.payload.length).toNat = f.payload.length := byteOf_toNat (by omega)
  unfold frameBody at wrong ⊢
  unfold receive frameBody
  simp only [List.cons_append, List.nil_append, len, if_neg (Nat.not_lt.mpr fits), List.drop_left, List.take_left]
  exact if_neg fun same => wrong same.symm

/-! ## Point records (R130) -/

/-- The three bytes of a point record. -/
def pointBytes (p : Byte × Byte × Byte) : List Byte := [p.1, p.2.1, p.2.2]

/-- R130: the point record of three bytes. -/
def pointOf (p : Byte × Byte × Byte) : PointRecord :=
  { point := (p.1.extractLsb' 0 4).toNat, warm := p.1.getLsbD 4, fault := p.1.getLsbD 5
    raw := ((joinBytes p.2.1 p.2.2).extractLsb' 0 12).toNat }

theorem pointRecords_bytes (ps : List (Byte × Byte × Byte)) : pointRecords (ps.flatMap pointBytes) = some (ps.map pointOf) := by
  induction ps with
  | nil => rfl
  | cons p ps ih =>
    show (pointRecords (ps.flatMap pointBytes)).map _ = _
    rw [ih]; rfl

theorem pointBytes_length (ps : List (Byte × Byte × Byte)) : (ps.flatMap pointBytes).length = 3 * ps.length := by
  induction ps with
  | nil => rfl
  | cons p ps ih =>
    have more : (pointBytes p ++ ps.flatMap pointBytes).length = 3 + 3 * ps.length := by rw [List.length_append, ih]; rfl
    rw [List.flatMap_cons, more, List.length_cons]; omega

/-- A byte string of a length that three divides is made of point records. -/
theorem exists_pointBytes (k : Nat) (bs : List Byte) (length : bs.length = 3 * k) :
    ∃ ps : List (Byte × Byte × Byte), ps.length = k ∧ bs = ps.flatMap pointBytes := by
  induction k generalizing bs with
  | zero => exact ⟨[], rfl, List.length_eq_zero_iff.mp length⟩
  | succ k ih =>
    match bs with
    | [] | [_] | [_, _] => simp only [List.length_cons, List.length_nil] at length; omega
    | a :: b :: c :: rest =>
      simp only [List.length_cons] at length
      obtain ⟨ps, count, rfl⟩ := ih rest (by omega)
      exact ⟨(a, b, c) :: ps, by rw [List.length_cons, count], rfl⟩

theorem pointRecords_length {bs : List Byte} {rs : List PointRecord} (h : pointRecords bs = some rs) : bs.length = 3 * rs.length := by
  match bs, h with
  | [], h => cases h; rfl
  | a :: b :: c :: rest, h =>
    obtain ⟨qs, sub, rfl⟩ := Option.map_eq_some_iff.mp h
    have := pointRecords_length sub
    simp only [List.length_cons]; omega

theorem pointBytes_first (ps : List (Byte × Byte × Byte)) (k : Nat) :
    (ps.flatMap pointBytes)[3 * k]? = ps[k]?.map (·.1) := by
  induction ps generalizing k with
  | nil => rfl
  | cons p ps ih =>
    cases k with
    | zero => rfl
    | succ k => exact ih k

/-- R130: the point records of a payload, when their numbers are as the rule asks. -/
theorem readingPoints_bytes (status : Byte) (ps : List (Byte × Byte × Byte)) :
    readingPoints (status :: ps.flatMap pointBytes) =
      if ps.length ≤ 8 ∧ (∀ p ∈ ps.map pointOf, p.point < 8) ∧ (ps.map (pointOf · |>.point)).Nodup then some (ps.map pointOf)
      else none := by
  unfold readingPoints; dsimp only
  rw [pointRecords_bytes]; dsimp only
  rw [List.length_map, List.map_map]; rfl

/-- R130: which payloads are those of a valid READING, byte by byte. -/
theorem readingPoints_isSome (payload : List Byte) :
    let point (j : Nat) : Nat := ((payload.getD (1 + 3 * j) 0).extractLsb' 0 4).toNat
    (readingPoints payload).isSome = true ↔
      ∃ k, k ≤ 8 ∧ payload.length = 1 + 3 * k ∧ (∀ j, j < k → point j < 8) ∧ ∀ j j', j < j' → j' < k → point j ≠ point j' := by
  intro point
  have spelled : ∀ (status : Byte) (ps : List (Byte × Byte × Byte)), payload = status :: ps.flatMap pointBytes →
      ((readingPoints payload).isSome = true ↔ ps.length ≤ 8 ∧ (∀ j, j < ps.length → point j < 8) ∧
        ∀ j j', j < j' → j' < ps.length → point j ≠ point j') := by
    intro status ps eq
    have at_ : ∀ j (h : j < ps.length), point j = (pointOf ps[j]).point := fun j h => by
      have byte : payload.getD (1 + 3 * j) 0 = ps[j].1 := by
        rw [eq, List.getD_eq_getElem?_getD, Nat.add_comm, List.getElem?_cons_succ, pointBytes_first, List.getElem?_eq_getElem h]; rfl
      show ((payload.getD (1 + 3 * j) 0).extractLsb' 0 4).toNat = _
      rw [byte]; rfl
    have low : (∀ p ∈ ps.map pointOf, p.point < 8) ↔ ∀ j, j < ps.length → point j < 8 := by
      simp only [List.forall_mem_map, List.forall_mem_iff_getElem]
      exact forall_congr' fun j => forall_congr' fun h => by rw [at_ j h]
    have apart : (ps.map (pointOf · |>.point)).Nodup ↔ ∀ j j', j < j' → j' < ps.length → point j ≠ point j' := by
      unfold List.Nodup
      simp only [List.pairwise_iff_getElem, List.length_map, List.getElem_map]
      refine forall_congr' fun j => forall_congr' fun j' => ⟨fun h less last => ?_, fun h first last less => ?_⟩
      · rw [at_ j (less.trans last), at_ j' last]; exact h (less.trans last) last less
      · have := h less last
        rwa [at_ j first, at_ j' last] at this
    rw [← low, ← apart, eq, readingPoints_bytes]
    refine ⟨fun found => ?_, fun good => by rw [if_pos good]; rfl⟩
    by_contra bad
    rw [if_neg bad] at found; cases found
  cases payload with
  | nil => exact ⟨nofun, fun ⟨k, _, length, _⟩ => by simp only [List.length_nil] at length; omega⟩
  | cons status rest =>
    refine ⟨fun valid => ?_, fun ⟨k, few, length, low, apart⟩ => ?_⟩
    · obtain ⟨rs, records⟩ : ∃ rs, pointRecords rest = some rs := by
        unfold readingPoints at valid; dsimp only at valid
        cases records : pointRecords rest with
        | none => rw [records] at valid; cases valid
        | some rs => exact ⟨rs, rfl⟩
      obtain ⟨ps, count, eq⟩ := exists_pointBytes rs.length rest (pointRecords_length records)
      obtain ⟨few, low, apart⟩ := (spelled status ps (by rw [eq])).mp valid
      exact ⟨ps.length, few, by rw [eq, List.length_cons, pointBytes_length, Nat.add_comm], low, apart⟩
    · obtain ⟨ps, rfl, eq⟩ := exists_pointBytes k rest (by rw [List.length_cons] at length; omega)
      exact (spelled status ps (by rw [eq])).mpr ⟨few, low, apart⟩

/-- Settles O9. -/
theorem fieldFramesAreReceivedAsSent : Obligations.FieldFramesAreReceivedAsSent := by
  refine ⟨fun limit f known fits => ?_, fun limit dst src kind len rest _ above => ?_, fun dest f => ?_⟩
  · have small : limit < 256 := by omega
    exact ⟨⟨markedChars f, rfl, receive_markedChars fits small⟩, fun hi lo wrong => receive_crcError fits small wrong⟩
  · exact if_pos above
  · intro point
    have known : readingCode = 0x11 := rfl
    unfold validReply
    rw [known]
    simp only [Bool.and_eq_true, beq_iff_eq, readingPoints_isSome, and_assoc]
    rfl

end Sys2Proof.Machine
end

section
/-! PROOFS. The poll walk (8.2 to 8.4): survey completions, missed nodes, readings (O11, O12, O14). -/

namespace Sys2Proof.Machine

/-! ## Survey completion -/

/-- R142: the work of a completion laid out, in orders the rules allow (log 4). -/
theorem completionWork_laidOut (empty : Bool) (s : State) : ∃ (zs : List (Fin 16)) (gs : List (Fin 4)) (cs : List Work) (d : Nat),
    zs.Perm ((List.finRange 16).filter fun z => s.tables.zones[z].enabled) ∧ gs.Perm (List.finRange 4) ∧
    cs.Perm (countsDue empty s) ∧
    completionWork empty s =
      ([.age] ++ zs.map .evaluate ++ [.endPass] ++ gs.flatMap groupWork ++ cs ++ [.close], { s with draws := d }) := by
  have drawn := completionWork_drawFrame empty s
  unfold DrawFrame at drawn
  let zs := drawOrder ((List.finRange 16).filter fun z => s.tables.zones[z].enabled) s
  let gs := drawOrder ((List.finRange 4).filter fun g => !quietGroup s g) zs.2
  let cs := drawOrder (countsDue empty s) gs.2
  refine ⟨zs.1, (List.finRange 4).filter (fun g => quietGroup s g) ++ gs.1, cs.1, _, freeOrder_perm _ _, ?_, freeOrder_perm _ _,
    Prod.ext rfl drawn⟩
  exact ((freeOrder_perm _ _).append_left _).trans (List.filter_append_perm _ _)

/-- R142: a survey completion counts its cycle and begins its work. -/
theorem surveyCompletion_completes (empty : Bool) (u : State) : SurveyCompletes empty u (surveyCompletion empty u) := by
  obtain ⟨zs, gs, cs, d, zones, groups, counts, laid⟩ := completionWork_laidOut empty { u with cycleCount := u.cycleCount + 1 }
  refine ⟨zs, gs, cs, d, zones, groups, counts, ?_⟩
  unfold surveyCompletion; dsimp only
  rw [laid]; rfl

/-! ## The poll list -/

section
variable {before after : List PollEntry} {e : PollEntry}
  (ascending : ((before ++ e :: after).map (·.address)).Pairwise (· < ·))
include ascending

/-- R131: around an entry of the ascending list the addresses are lower before it and higher after it. -/
theorem around_entry : (∀ d ∈ before, d.address < e.address) ∧ ∀ d ∈ after, e.address < d.address := by
  rw [List.map_append, List.pairwise_append] at ascending
  obtain ⟨-, later, cross⟩ := ascending
  rw [List.map_cons, List.pairwise_cons] at later
  exact ⟨fun d mem => cross _ (List.mem_map_of_mem mem) _ List.mem_cons_self, fun d mem => later.1 _ (List.mem_map_of_mem mem)⟩

theorem find_entry : (before ++ e :: after).find? (fun d => d.address == e.address) = some e := by
  obtain ⟨below, -⟩ := around_entry ascending
  rw [List.find?_append, List.find?_eq_none.mpr fun d mem is => absurd (below d mem) (by simpa using (beq_iff_eq.mp is).ge)]
  simp

theorem find_after : (before ++ e :: after).find? (fun d => decide (e.address < d.address)) = after.head? := by
  obtain ⟨below, above⟩ := around_entry ascending
  rw [List.find?_append, List.find?_eq_none.mpr fun d mem is => by have := below d mem; simp only [decide_eq_true_eq] at is; omega]
  cases after with
  | nil => simp
  | cons d ds => simp [above d List.mem_cons_self]

theorem map_entry (f : PollEntry → PollEntry) :
    (before ++ e :: after).map (fun d => if d.address = e.address then f d else d) = before ++ f e :: after := by
  obtain ⟨below, above⟩ := around_entry ascending
  have same : ∀ ds : List PollEntry, (∀ d ∈ ds, d.address ≠ e.address) → ds.map (fun d => if d.address = e.address then f d else d) = ds :=
    fun ds other => by
      conv => rhs; rw [← List.map_id ds]
      exact List.map_congr_left fun d mem => if_neg (other d mem)
  rw [List.map_append, List.map_cons, if_pos rfl, same before fun d mem => (below d mem).ne, same after fun d mem => (above d mem).ne']

end

/-- R133, R141: the transaction of an entry of the poll list, as it begins. -/
def entryTransaction (s : State) (e : PollEntry) : Transaction :=
  { owner := .poll e.address, frame := pollFrame s e, left := s.tables.device.retries, phase := .sending }

theorem entryTransaction_congr {s u : State} (tables : u.tables = s.tables) (groups : u.groups = s.groups) (fans : u.fans = s.fans)
    (e : PollEntry) : entryTransaction u e = entryTransaction s e := by
  have frame : pollFrame u e = pollFrame s e := by
    unfold pollFrame
    cases e.fan with
    | none => rfl
    | some f =>
      have handOver : u.groups[fanGroup u f].handOver = s.groups[fanGroup s f].handOver := by
        simp only [fanGroup, tables, groups]
      dsimp only
      rw [handOver, fans]
  unfold entryTransaction; rw [frame, tables]

theorem pollAfter_next {s : State} {a : Nat} {e : PollEntry} (found : s.pollList.find? (fun d => decide (a < d.address)) = some e) :
    pollAfter a s = { s with transaction := some (entryTransaction s e) } := by
  unfold pollAfter; rw [found]; rfl

/-- R142: after the last entry the walk ends in survey completion. -/
theorem pollAfter_last {s : State} {a : Nat} (last : s.pollList.find? (fun d => decide (a < d.address)) = none) :
    SurveyCompletes false { s with transaction := none } (pollAfter a s) := by
  unfold pollAfter; rw [last]; exact surveyCompletion_completes false _

theorem nodeOutcome_found {s : State} {a : Nat} {e : PollEntry} (found : s.pollList.find? (fun d => d.address == a) = some e)
    (answered : Bool) :
    nodeOutcome a answered s =
      postNode a e.state (if answered then .online else .offline) (if answered then 0 else min 255 (e.miss + 1))
        (updateEntry a (fun d => { d with state := if answered then .online else .offline
                                          miss := if answered then 0 else min 255 (e.miss + 1) }) s) := by
  unfold nodeOutcome; rw [found]

theorem nodeOutcome_absent {s : State} {a : Nat} (absent : s.pollList.find? (fun d => d.address == a) = none) (answered : Bool) :
    nodeOutcome a answered s = s := by
  unfold nodeOutcome; rw [absent]

theorem postNode_eq (a : Nat) (old new : NodeState) (miss : Nat) (s : State) :
    postNode a old new miss s = if old = new then s else post .nodeState a (detailOf (new.code + 16 * old.code) miss) s := rfl

/-- The walk goes on from the state that the records of the node and its channels leave. -/
theorem walk_next {s u : State} (frame : NodeFrame s u) {a : Nat} {e : PollEntry}
    (found : u.pollList.find? (fun d => decide (a < d.address)) = some e) :
    pollAfter a u = { u with transaction := some (entryTransaction s e) } := by
  rw [pollAfter_next found, entryTransaction_congr (s := s) (by rw [frame]) (by rw [frame]) (by rw [frame])]

/-! ## The last attempt fails (R137) -/

/-- R134: the record of a missed node. -/
def missedEntry (e : PollEntry) (errors : Nat) : PollEntry :=
  { e with state := .offline, miss := min 255 (e.miss + 1), errors := errors }

/-- R134: a node is missed, its error count already as it stands. -/
theorem nodeOutcome_missed {s : State} {before after : List PollEntry} {e : PollEntry}
    (ascending : ((before ++ e :: after).map (·.address)).Pairwise (· < ·)) (list : s.pollList = before ++ e :: after) :
    nodeOutcome e.address false s =
      if e.state = .offline then { s with pollList := before ++ missedEntry e e.errors :: after }
      else post .nodeState e.address (detailOf (NodeState.offline.code + 16 * e.state.code) (min 255 (e.miss + 1)))
        { s with pollList := before ++ missedEntry e e.errors :: after } := by
  have found : s.pollList.find? (fun d => d.address == e.address) = some e := by rw [list]; exact find_entry ascending
  have written := map_entry ascending fun d => { d with state := .offline, miss := min 255 (e.miss + 1) }
  rw [nodeOutcome_found found, postNode_eq]
  unfold updateEntry
  rw [list]
  simp only [Bool.false_eq_true, if_false]
  rw [written]; rfl

theorem pollFailed_last {tr : Transaction} (left : tr.left = 0) (a : Nat) (s : State) :
    pollFailed tr a s = pollAfter a (nodeOutcome a false s) := by
  unfold pollFailed; rw [left]

/-- R137, R138: the last allowed attempt has failed in one of the ways, with the error and contention counts it leaves. -/
theorem lastAttempt_fails {s : State} {tr : Transaction} {before after : List PollEntry} {e : PollEntry} {c : Instr}
    {errors contention : Nat} (awake : s.inReset = false) (flying : s.transaction = some tr) (owner : tr.owner = .poll e.address)
    (left : tr.left = 0) (ascending : ((before ++ e :: after).map (·.address)).Pairwise (· < ·))
    (list : s.pollList = before ++ e :: after)
    (fails : (errors = min 255 (e.errors + 1) ∧ contention = s.contention ∧
        ((tr.phase = .awaiting ∧ c = .replyTimeout) ∨ (tr.phase = .receiving ∧ (c = .framingError ∨
          ∃ chars, c = .fieldReceptionEnd chars ∧ (receive 60 chars = .malformed ∨ receive 60 chars = .crcError ∨
            ∃ f, receive 60 chars = .frame f ∧ validReply tr.frame.dst f = false))))) ∨
      (errors = e.errors ∧ contention = s.contention + 1 ∧ contention < 3 ∧ tr.phase = .sending ∧ c = .contentionMismatch)) :
    exec c s = .next (pollAfter e.address (nodeOutcome e.address false
      { s with contention := contention, pollList := before ++ { e with errors := errors } :: after })) := by
  rcases fails with ⟨rfl, rfl, way⟩ | ⟨rfl, rfl, below, phase, rfl⟩
  · have counted : countError e.address s = { s with pollList := before ++ { e with errors := min 255 (e.errors + 1) } :: after } := by
      unfold countError updateEntry
      rw [list, map_entry ascending fun d => { d with errors := min 255 (d.errors + 1) }]
    have failed : attemptFailed tr s = pollAfter e.address (nodeOutcome e.address false
        { s with pollList := before ++ { e with errors := min 255 (e.errors + 1) } :: after }) := by
      rw [attemptFailed_poll owner, pollFailed_last left, counted]
    rcases way with ⟨phase, rfl⟩ | ⟨phase, rfl | ⟨chars, rfl, bad⟩⟩
    · rw [exec_replyTimeout awake flying phase, failed]
    · rw [exec_framingError awake flying phase, failed]
    · rw [exec_fieldReceptionEnd awake flying phase, endReception_failed bad, failed]
  · rw [exec_contentionMismatch awake flying phase, attemptContended_poll owner below, pollFailed_last left, ← list]

/-- Settles O11. -/
theorem lastFailedAttemptMissesTheNode : Obligations.LastFailedAttemptMissesTheNode := by
  intro s tr before e c errors contention awake flying owner left ascending fails missed noted
  have known : ∀ after, s.pollList = before ++ e :: after →
      exec c s = .next (pollAfter e.address (noted (before ++ missed :: after))) ∧
        (before ++ missed :: after).find? (fun d => decide (e.address < d.address)) = after.head? := fun after list => by
    rw [list] at ascending
    have counted : ((before ++ { e with errors := errors } :: after).map (·.address)).Pairwise (· < ·) := by
      simpa using ascending
    have marked : ((before ++ missed :: after).map (·.address)).Pairwise (· < ·) := by simpa [missed] using ascending
    refine ⟨?_, find_after marked⟩
    rw [lastAttempt_fails awake flying owner left ascending list fails]
    exact congrArg (fun u => Host.Outcome.next (pollAfter e.address u)) (nodeOutcome_missed counted rfl)
  have frame : ∀ l, NodeFrame s (noted l) ∧ (noted l).pollList = l := fun l => by
    have posted : ∀ u : State, NodeFrame u (if e.state = .offline then u
        else post .nodeState e.address (detailOf (NodeState.offline.code + 16 * e.state.code) missed.miss) u) ∧
        (if e.state = .offline then u
        else post .nodeState e.address (detailOf (NodeState.offline.code + 16 * e.state.code) missed.miss) u).pollList = u.pollList :=
      fun u => by split <;> exact ⟨rfl, rfl⟩
    obtain ⟨kept, list⟩ := posted { s with pollList := l, contention := contention }
    exact ⟨NodeFrame.trans (by rfl) kept, list⟩
  refine ⟨fun next after list => ?_, fun list => ?_⟩
  · obtain ⟨eq, found⟩ := known _ list
    obtain ⟨kept, written⟩ := frame (before ++ missed :: next :: after)
    rw [eq, walk_next kept (by rw [written]; exact found)]; rfl
  · obtain ⟨eq, found⟩ := known [] list
    obtain ⟨-, written⟩ := frame (before ++ [missed])
    exact ⟨_, eq, pollAfter_last (by rw [written]; exact found)⟩

/-! ## A reading arrives (R136) -/

/-- R6, R3: the slot a lookup finds is the valid one that holds the key. -/
theorem KeysLaw.lookup_eq {s : State} (law : KeysLaw s) (node point : Nat) :
    lookup s node point = (List.finRange 64).find? fun i =>
      s.tables.bindings[i].valid && s.tables.bindings[i].node == node && s.tables.bindings[i].point.val == point := by
  have listed : ∀ i : Fin 64, s.tables.bindings[i].valid = true → s.tables.bindings[i].node = node →
      s.tables.bindings[i].point.val = point → i ∈ s.chains[bucketOf node point] := fun i valid isNode isPoint =>
    law.mem_chain.mpr ⟨valid, by subst isNode isPoint; rfl⟩
  unfold lookup
  cases found : s.chains[bucketOf node point].find? fun i =>
      s.tables.bindings[i].node == node && s.tables.bindings[i].point.val == point with
  | none =>
    refine (List.find?_eq_none.mpr fun i _ is => ?_).symm
    simp only [Bool.and_eq_true, beq_iff_eq] at is
    obtain ⟨⟨valid, isNode⟩, isPoint⟩ := is
    exact List.find?_eq_none.mp found i (listed i valid isNode isPoint) (by simp only [isNode, isPoint, beq_self_eq_true, Bool.and_self])
  | some i =>
    have own := List.find?_some found
    have valid := (law.mem_chain.mp (List.mem_of_find?_eq_some found)).1
    simp only [Bool.and_eq_true, beq_iff_eq] at own
    obtain ⟨isNode, isPoint⟩ := own
    cases first : (List.finRange 64).find? fun i =>
        s.tables.bindings[i].valid && s.tables.bindings[i].node == node && s.tables.bindings[i].point.val == point with
    | none => exact absurd (by simp only [valid, isNode, isPoint, beq_self_eq_true, Bool.and_self]) (List.find?_eq_none.mp first i (List.mem_finRange i))
    | some j =>
      have other := List.find?_some first
      simp only [Bool.and_eq_true, beq_iff_eq] at other
      obtain ⟨⟨valid', isNode'⟩, isPoint'⟩ := other
      exact congrArg some (law.1 i j valid valid' (isNode.trans isNode'.symm) (Fin.ext (isPoint.trans isPoint'.symm)))

theorem lookup_congr {s u : State} (bindings : u.tables.bindings = s.tables.bindings) (chains : u.chains = s.chains) (node point : Nat) :
    lookup u node point = lookup s node point := by
  unfold lookup; rw [bindings, chains]

/-- R35: a change of health is posted, but one between GOOD and HELD. -/
theorem postHealth_eq (i : Fin 64) (old new : Health) (s : State) :
    postHealth i old new s =
      if old = new ∨ ((old = .good ∨ old = .held) ∧ (new = .good ∨ new = .held)) then s
      else post .channelHealth i.val (detailOf new.code old.code) s := by
  unfold postHealth
  by_cases posts : healthPosts old new = true
  · obtain ⟨differs, other⟩ := (healthPosts_iff old new).mp posts
    rw [if_pos posts, if_neg fun h => h.elim differs other]
  · rw [if_neg posts, if_pos]
    by_contra none
    exact posts ((healthPosts_iff old new).mpr ⟨fun h => none (.inl h), fun h => none (.inr h)⟩)

/-- R6, R7: the slot whose valid binding holds the key of a point record from node `a`. -/
def boundSlot (s : State) (a : Nat) (p : Byte × Byte × Byte) : Option (Fin 64) :=
  (List.finRange 64).find? fun i =>
    s.tables.bindings[i].valid && s.tables.bindings[i].node == a && s.tables.bindings[i].point.val == (p.1.extractLsb' 0 4).toNat

theorem readingPoints_valid {status : Byte} {ps : List (Byte × Byte × Byte)}
    (valid : (readingPoints (status :: ps.flatMap pointBytes)).isSome = true) :
    readingPoints (status :: ps.flatMap pointBytes) = some (ps.map pointOf) := by
  rw [readingPoints_bytes] at valid ⊢
  split at valid
  · rename_i good; exact if_pos good
  · cases valid

theorem takePoint_unbound {s u : State} (law : KeysLaw s) (tables : u.tables = s.tables) (chains : u.chains = s.chains) {a : Nat}
    {p : Byte × Byte × Byte} (unbound : boundSlot s a p = none) (status : Byte) : takePoint a status u (pointOf p) = u := by
  unfold takePoint
  rw [lookup_congr (s := s) (by rw [tables]) chains, law.lookup_eq]
  unfold boundSlot at unbound
  rw [show (pointOf p).point = (p.1.extractLsb' 0 4).toNat from rfl, unbound]

/-- R23, R35: the sample that a bound point record brings its channel. -/
theorem takePoint_bound {s u : State} (law : KeysLaw s) (tables : u.tables = s.tables) (chains : u.chains = s.chains) {a : Nat}
    {p : Byte × Byte × Byte} {i : Fin 64} (bound : boundSlot s a p = some i) (status : Byte) :
    let b := s.tables.bindings[i]
    let old := u.channels[i]
    let new := sampleRecord b s.tables.zones[b.zone].settleCount old ((joinBytes p.2.1 p.2.2).extractLsb' 0 12).toNat
      (p.1.getLsbD 4 || status.getLsbD 0) (p.1.getLsbD 5 || status.getLsbD 1)
    let v : State := { u with channels := u.channels.set i new }
    takePoint a status u (pointOf p) =
      if old.health = .disabled then u
      else if old.health = new.health ∨ ((old.health = .good ∨ old.health = .held) ∧ (new.health = .good ∨ new.health = .held)) then v
      else post .channelHealth i.val (detailOf new.health.code old.health.code) v := by
  intro b old new v
  have looked : lookup u a (pointOf p).point = some i := by
    rw [lookup_congr (s := s) (by rw [tables]) chains, law.lookup_eq]; exact bound
  have zone : channelZone u i = s.tables.zones[b.zone] := by unfold channelZone; simp only [tables, b]
  have sampled : takePoint a status u (pointOf p) = takeSample i (pointOf p).raw ((pointOf p).warm || status.getLsbD 0)
      ((pointOf p).fault || status.getLsbD 1) u := by
    unfold takePoint; rw [looked]
  rw [sampled]
  unfold takeSample; dsimp only
  rw [zone, postHealth_eq, tables]
  rfl

/-- The point records of a READING leave the node's record and its walk. -/
theorem takePoints_frame (a : Nat) (status : Byte) (ps : List PointRecord) (u : State) :
    ps.foldl (takePoint a status) u = { u with
      channels := (ps.foldl (takePoint a status) u).channels, events := (ps.foldl (takePoint a status) u).events
      lost := (ps.foldl (takePoint a status) u).lost } := by
  induction ps generalizing u with
  | nil => rfl
  | cons p ps ih =>
    have first := takePoint_frame a status p u
    rw [List.foldl_cons, ih (takePoint a status u p)]
    rw [first]

/-- R136: the node answers. -/
theorem nodeOutcome_answered (a : Nat) (s : State) :
    let listed : State := { s with
      pollList := s.pollList.map fun e => if e.address = a then { e with state := .online, miss := 0 } else e }
    (∀ e, s.pollList.find? (fun e => e.address == a) = some e → nodeOutcome a true s =
      if e.state = .online then listed else post .nodeState a (detailOf (NodeState.online.code + 16 * e.state.code) 0) listed) ∧
    (s.pollList.find? (fun e => e.address == a) = none → nodeOutcome a true s = listed) := by
  intro listed
  refine ⟨fun e found => nodeOutcome_found found true, fun absent => (nodeOutcome_absent absent true).trans ?_⟩
  have same : s.pollList.map (fun e => if e.address = a then { e with state := .online, miss := 0 } else e) = s.pollList := by
    conv => rhs; rw [← List.map_id s.pollList]
    exact List.map_congr_left fun e mem => if_neg fun is => List.find?_eq_none.mp absent e mem (beq_iff_eq.mpr is)
  show s = { s with pollList := _ }
  rw [same]

theorem nodeOutcome_answered_list (a : Nat) (s : State) :
    (nodeOutcome a true s).pollList =
      s.pollList.map fun e => if e.address = a then { e with state := .online, miss := 0 } else e := by
  obtain ⟨found, absent⟩ := nodeOutcome_answered a s
  cases is : s.pollList.find? (fun e => e.address == a) with
  | none => rw [absent is]
  | some e => rw [found e is]; split <;> rfl

/-- The walk after address `a` is read off the entries above it, whatever becomes of the entry of `a`. -/
theorem find_above_map {a : Nat} {f : PollEntry → PollEntry} (list : List PollEntry) (address : ∀ e, (f e).address = e.address) :
    (list.map fun e => if e.address = a then f e else e).find? (fun e => decide (a < e.address)) =
      list.find? fun e => decide (a < e.address) := by
  induction list with
  | nil => rfl
  | cons e es ih =>
    rw [List.map_cons, List.find?_cons, List.find?_cons, ih]
    by_cases own : e.address = a
    · rw [if_pos own, address, own]; simp
    · rw [if_neg own]

/-- Settles O12. -/
theorem readingConditionsItsChannel : Obligations.ReadingConditionsItsChannel := by
  intro s tr a chars f status points awake flying owner phase received valid payload law listed online slot healthy taken conditioned
  have outcome : nodeOutcome a true s = online := by
    obtain ⟨found, absent⟩ := nodeOutcome_answered a s
    cases is : s.pollList.find? (fun e => e.address == a) with
    | none => rw [absent is]; simp only [online, is]; rfl
    | some e => rw [found e is]; simp only [online, is]; rfl
  obtain ⟨frame, -⟩ := nodeOutcome_frame a true s
  rw [outcome] at frame
  have taking : ∀ (ps : List (Byte × Byte × Byte)) (u : State), u.tables = s.tables → u.chains = s.chains →
      (ps.map pointOf).foldl (takePoint a status) u = ps.foldl taken u := by
    intro ps
    induction ps with
    | nil => exact fun _ _ _ => rfl
    | cons p ps ih =>
      intro u tables chains
      have first : takePoint a status u (pointOf p) = taken u p := by
        cases bound : boundSlot s a p with
        | none =>
          have unbound : slot p = none := bound
          rw [takePoint_unbound law tables chains bound]; simp only [taken, unbound]
        | some i =>
          have own : slot p = some i := bound
          rw [takePoint_bound law tables chains bound]; simp only [taken, own]; rfl
      have kept := takePoint_frame a status (pointOf p) u
      rw [List.map_cons, List.foldl_cons, List.foldl_cons, ← first]
      exact ih _ (by rw [kept]; exact tables) (by rw [kept]; exact chains)
  have arrived : readingArrival a f.payload online = conditioned := by
    have points_ : readingPoints f.payload = some (points.map pointOf) := by
      have some_ : (readingPoints f.payload).isSome = true := by
        unfold validReply at valid; exact (Bool.and_eq_true_iff.mp valid).2
      rw [payload] at some_ ⊢
      exact readingPoints_valid some_
    unfold readingArrival
    rw [points_, payload]
    exact taking points online (by rw [frame]) (by rw [frame])
  have ends : exec (.fieldReceptionEnd chars) s = .next (pollAfter a conditioned) := by
    rw [exec_fieldReceptionEnd awake flying phase, endReception_answered received valid, attemptAnswered_poll owner, outcome, arrived]
  have walked : NodeFrame s conditioned := by rw [← arrived]; exact frame.trans (readingArrival_frame a f.payload online)
  have above : conditioned.pollList.find? (fun e => decide (a < e.address)) = s.pollList.find? fun e => decide (a < e.address) := by
    have list : conditioned.pollList = listed.pollList := by
      rw [← arrived]; unfold readingArrival; beta_reduce
      rw [takePoints_frame, ← outcome]; exact nodeOutcome_answered_list a s
    rw [list]; exact find_above_map (f := fun e => { e with state := .online, miss := 0 }) s.pollList fun _ => rfl
  refine ⟨_, ends, fun next found => walk_next walked (above.trans found), fun last => pollAfter_last (above.trans ?_)⟩
  exact List.find?_eq_none.mpr fun e mem is => absurd (last e mem) (by simpa using is)

end Sys2Proof.Machine
end

section
/-! PROOFS. Early ends of a walk, empty cycles, ticks and the service release line (O14, O15, O17, O21). -/

namespace Sys2Proof.Machine

/-! ## Completions on a segment that is not POLLING -/

/-- Only what the work of a completion without dispatch touches changed. -/
def QuietFrame (s t : State) : Prop :=
  t = { s with draws := t.draws, fans := t.fans, events := t.events, lost := t.lost, groups := t.groups, outputs := t.outputs
               zones := t.zones, channels := t.channels, work := t.work, warmupLeft := t.warmupLeft, countdown := t.countdown
               holdCount := t.holdCount }

theorem QuietFrame.refl (s : State) : QuietFrame s s := rfl

theorem QuietFrame.trans {s t u : State} (h : QuietFrame s t) (k : QuietFrame t u) : QuietFrame s u := by
  unfold QuietFrame at *; rw [h] at k; exact k

theorem ZoneFrame.quiet {s t : State} (h : ZoneFrame s t) : QuietFrame s t := by unfold QuietFrame; rw [h]

theorem doWork_quiet {s : State} (quiet : s.segment ≠ .polling) (w : Work) : QuietFrame s (doWork w s) := by
  cases w with
  | age => show QuietFrame s (ageChannels s); unfold QuietFrame; rw [ageChannels_frame]
  | evaluate z => exact (evaluateZone_zoneFrame z s).quiet
  | endPass => exact (judgeAll_groupFrame s).zone.quiet
  | stepBegins g => exact (beginGroupStep_fanFrame g s).group.zone.quiet
  | countExpiry g => exact (countExpiry_groupFrame g s).zone.quiet
  | stageUpdate g => exact (updateStage_groupFrame g s).zone.quiet
  | startsStops g => exact ((startsAndStops_fanFrame g s).group.trans (judgeAlarm_groupFrame _)).zone.quiet
  | supervise g => exact (superviseGroup_groupFrame g s).zone.quiet
  | setpoints g => exact ((writeSetpoints_fanFrame g s).group.trans (judgeFans_groupFrame _)).zone.quiet
  | countHold => unfold doWork; dsimp only; split <;> rfl
  | countWarmup => unfold doWork; dsimp only; split <;> rfl
  | countFaulted => unfold doWork; dsimp only; split <;> rfl
  | close => unfold doWork; dsimp only; rw [if_neg quiet]; exact .refl s

theorem runWork_quiet (ws : List Work) {s : State} (quiet : s.segment ≠ .polling) : QuietFrame s (runWork ws s) :=
  runWork_induction (P := QuietFrame s) (fun _ _ h => h.trans rfl)
    (fun w t _ h => h.trans (doWork_quiet (by rw [h]; exact quiet) w)) ws s (.refl s)

/-- R145: the FAULTED countdown is counted by its own piece of work alone. -/
theorem doWork_countdown {w : Work} (other : w ≠ .countFaulted) (s : State) : (doWork w s).countdown = s.countdown := by
  have zone : ∀ {t : State}, ZoneFrame s t → t.countdown = s.countdown := fun h => by rw [h]
  cases w with
  | age => show (ageChannels s).countdown = _; rw [ageChannels_frame]
  | evaluate z => exact zone (evaluateZone_zoneFrame z s)
  | endPass => rfl
  | stepBegins g => exact zone (beginGroupStep_fanFrame g s).group.zone
  | countExpiry g => exact zone (countExpiry_groupFrame g s).zone
  | stageUpdate g => rfl
  | startsStops g => exact zone ((startsAndStops_fanFrame g s).group.trans (judgeAlarm_groupFrame _)).zone
  | supervise g => exact zone (superviseGroup_groupFrame g s).zone
  | setpoints g => exact zone ((writeSetpoints_fanFrame g s).group.trans (judgeFans_groupFrame _)).zone
  | countHold => unfold doWork; dsimp only; split <;> rfl
  | countWarmup => unfold doWork; dsimp only; split <;> rfl
  | countFaulted => exact absurd rfl other
  | close =>
    unfold doWork beginDispatch dispatchNext; dsimp only
    repeat' split
    all_goals rfl

/-- R32: the channels are aged by their own piece of work alone. -/
theorem doWork_channels {w : Work} (other : w ≠ .age) (s : State) : (doWork w s).channels = s.channels := by
  have zone : ∀ {t : State}, ZoneFrame s t → t.channels = s.channels := fun h => by rw [h]
  cases w with
  | age => exact absurd rfl other
  | evaluate z => exact zone (evaluateZone_zoneFrame z s)
  | endPass => rfl
  | stepBegins g => exact zone (beginGroupStep_fanFrame g s).group.zone
  | countExpiry g => exact zone (countExpiry_groupFrame g s).zone
  | stageUpdate g => rfl
  | startsStops g => exact zone ((startsAndStops_fanFrame g s).group.trans (judgeAlarm_groupFrame _)).zone
  | supervise g => exact zone (superviseGroup_groupFrame g s).zone
  | setpoints g => exact zone ((writeSetpoints_fanFrame g s).group.trans (judgeFans_groupFrame _)).zone
  | countHold => unfold doWork; dsimp only; split <;> rfl
  | countWarmup => unfold doWork; dsimp only; split <;> rfl
  | countFaulted => unfold doWork; dsimp only; split <;> rfl
  | close =>
    unfold doWork beginDispatch dispatchNext; dsimp only
    repeat' split
    all_goals rfl

/-- What every piece of a list of work keeps, the list run keeps. -/
theorem runWork_keeps {P : State → Prop} {ws : List Work} (left : ∀ vs t, P t → P { t with work := vs })
    (piece : ∀ w ∈ ws, ∀ t, P t → P (doWork w t)) {s : State} (start : P s) : P (runWork ws s) := by
  induction ws generalizing s with
  | nil => exact left _ s start
  | cons w ws ih =>
    unfold runWork; split
    · exact left _ s start
    · exact ih (fun v mem => piece v (List.mem_cons_of_mem _ mem)) (piece w List.mem_cons_self s start)

theorem writeZone_lowers (z : Fin 16) (new : ZoneRecord) (s : State) : Lowers s (writeZone z new s) := by
  unfold writeZone; dsimp only
  refine Lowers.trans ?_ (judgeAlarm_lowered _)
  split
  · exact replaceZone_lowers z new s
  · exact (replaceZone_lowers z new s).trans (forEachGroup_lowers restage_lowers _)

theorem evaluateZone_lowers (z : Fin 16) (s : State) : Lowers s (evaluateZone z s) := by
  unfold evaluateZone evaluateSpill evaluateContacts evaluateRising evaluateGas
  exact (((writeZone_lowers z _ _).trans (writeZone_lowers z _ _)).trans (writeZone_lowers z _ _)).trans (writeZone_lowers z _ _)

/-- R126: on a FAULTED or RELEASED segment HEALTHY's function is clear. -/
theorem healthyFunction_alarmed {s : State} (segment : s.segment = .faulted ∨ s.segment = .released) : healthyFunction s = false := by
  unfold healthyFunction
  rcases segment with is | is <;> simp [is]

/-- R126: on a FAULTED or RELEASED segment HEALTHY stays de-energized over a completion. -/
theorem doWork_unhealthy {s : State} (segment : s.segment = .faulted ∨ s.segment = .released) (off : s.outputs.healthy = false)
    (w : Work) : (doWork w s).outputs.healthy = false := by
  have lowered : ∀ {t : State}, Lowers s t → t.outputs.healthy = false := fun h => by
    by_contra on
    have := h.healthy (by simpa using on)
    rw [off] at this; cases this
  have quiet : s.segment ≠ .polling := by rcases segment with is | is <;> rw [is] <;> nofun
  cases w with
  | age => show (ageChannels s).outputs.healthy = _; rw [ageChannels_frame]; exact off
  | evaluate z => exact lowered (evaluateZone_lowers z s)
  | endPass => exact healthyFunction_alarmed segment
  | stepBegins g => exact lowered (beginGroupStep_fanFrame g s).lowers
  | countExpiry g =>
    have outputs : (countExpiry g s).outputs = s.outputs := by
      unfold countExpiry; dsimp only; split
      · split <;> rfl
      · rfl
    exact lowered (.of_same outputs)
  | stageUpdate g => exact off
  | startsStops g => exact lowered ((startsAndStops_fanFrame g s).lowers.trans (judgeAlarm_lowered _))
  | supervise g => exact lowered (superviseGroup_lowers g s)
  | setpoints g =>
    have judged : ∀ t : State, (judgeFans t).outputs.healthy = healthyFunction t := fun _ => rfl
    exact (judged _).trans (healthyFunction_alarmed (by rw [writeSetpoints_fanFrame g s]; exact segment))
  | countHold => unfold doWork; dsimp only; split <;> exact off
  | countWarmup => unfold doWork; dsimp only; split <;> exact off
  | countFaulted => unfold doWork; dsimp only; split <;> exact off
  | close => unfold doWork; dsimp only; rw [if_neg quiet]; exact off

theorem runWork_unhealthy (ws : List Work) {s : State} (segment : s.segment = .faulted ∨ s.segment = .released)
    (off : s.outputs.healthy = false) : (runWork ws s).outputs.healthy = false := by
  have quiet : ∀ {t : State}, t.segment = .faulted ∨ t.segment = .released → t.segment ≠ .polling := by
    rintro t (is | is) <;> rw [is] <;> nofun
  refine (runWork_keeps (P := fun t => (t.segment = .faulted ∨ t.segment = .released) ∧ t.outputs.healthy = false)
    (fun _ _ h => h) (fun w _ t h => ⟨?_, doWork_unhealthy h.1 h.2 w⟩) ⟨segment, off⟩).2
  rw [doWork_quiet (quiet h.1) w]; exact h.1

/-- A completion from a FAULTED or RELEASED segment: what it leaves, and that HEALTHY stays de-energized. -/
theorem SurveyCompletes.quiet {empty : Bool} {u t : State} (h : SurveyCompletes empty u t)
    (segment : u.segment = .faulted ∨ u.segment = .released) (off : u.outputs.healthy = false) :
    QuietFrame { u with cycleCount := u.cycleCount + 1 } t ∧ (empty = false → t.countdown = u.countdown) ∧
      t.outputs.healthy = false ∧ QueueGrows u t := by
  obtain ⟨zs, gs, cs, d, -, -, counts, rfl⟩ := h
  have polling : u.segment ≠ .polling := by rcases segment with is | is <;> rw [is] <;> nofun
  have grows := runWork_grows ([.age] ++ zs.map .evaluate ++ [.endPass] ++
    (gs.flatMap fun g => [.stepBegins g, .countExpiry g, .stageUpdate g, .startsStops g, .supervise g, .setpoints g]) ++
    cs ++ [.close]) { u with cycleCount := u.cycleCount + 1, draws := d }
  have counted : QueueGrows u { u with cycleCount := u.cycleCount + 1, draws := d } := .of_same rfl rfl
  refine ⟨QuietFrame.trans (by rfl) (runWork_quiet _ polling), fun walk => ?_, runWork_unhealthy _ segment off, counted.trans grows⟩
  refine runWork_keeps (P := fun v => v.countdown = u.countdown) (fun _ _ h => h)
    (fun w mem v h => (doWork_countdown (fun is => ?_) v).trans h) rfl
  subst is walk
  simp only [List.mem_append, List.mem_map, List.mem_flatMap, List.mem_cons, List.not_mem_nil, counts.mem_iff,
    reduceCtorEq, false_or, or_false, and_false, exists_false, Bool.false_eq_true, false_and, if_false] at mem
  rcases mem with held | warm
  · split at held <;> simp at held
  · split at warm <;> simp at warm

/-! ## Early ends of a walk (R139, R146) -/

/-- R148, R126: the segment becomes FAULTED or RELEASED, with its event and HEALTHY de-energized. -/
theorem changeSegment_alarmed {new : Segment} (alarmed : new = .faulted ∨ new = .released) {s : State} (differs : s.segment ≠ new) :
    changeSegment new s =
      { post .segmentState 0 (detailOf new.code s.segment.code) { s with segment := new } with
        outputs := { s.outputs with healthy := false } } := by
  have posts : segmentPosts s.segment new = true := by
    unfold segmentPosts
    rcases alarmed with rfl | rfl <;> simpa using differs
  have judged : ∀ v : State, v.segment = .faulted ∨ v.segment = .released →
      judgeHealthy v = { v with outputs := { v.outputs with healthy := false } } := fun v is => by
    unfold judgeHealthy; rw [healthyFunction_alarmed is]
  unfold changeSegment; dsimp only
  rw [if_pos posts, judged _ alarmed]; rfl

theorem becomeReleased_eq {s : State} (differs : s.segment ≠ .released) :
    becomeReleased s =
      post .serviceRelease 0 (detailOf 0 1)
        { post .segmentState 0 (detailOf Segment.released.code s.segment.code)
            { s with segment := .released, contention := 0, countdown := 0 } with
          outputs := { s.outputs with healthy := false } } := by
  unfold becomeReleased
  rw [changeSegment_alarmed (.inr rfl) (by exact differs)]

/-- R134: a node is missed; an address that stands in no entry leaves the list. -/
theorem nodeOutcome_miss (a : Nat) (s : State) :
    let missed : State := { s with
      pollList := s.pollList.map fun e => if e.address = a then { e with state := .offline, miss := min 255 (e.miss + 1) } else e }
    (s.pollList.map (·.address)).Pairwise (· < ·) →
    (∀ e, s.pollList.find? (fun e => e.address == a) = some e → nodeOutcome a false s =
      if e.state = .offline then missed
      else post .nodeState a (detailOf (NodeState.offline.code + 16 * e.state.code) (min 255 (e.miss + 1))) missed) ∧
    (s.pollList.find? (fun e => e.address == a) = none → nodeOutcome a false s = missed) := by
  intro missed ascending
  refine ⟨fun e found => ?_, fun absent => (nodeOutcome_absent absent false).trans ?_⟩
  · obtain ⟨before, after, list⟩ := List.append_of_mem (List.mem_of_find?_eq_some found)
    obtain rfl : e.address = a := by simpa using List.find?_some found
    have ascending' := ascending
    rw [list] at ascending'
    have written := map_entry ascending' fun d => { d with state := .offline, miss := min 255 (d.miss + 1) }
    have same : missed = { s with pollList := before ++ missedEntry e e.errors :: after } := by
      show { s with pollList := _ } = _
      rw [list, written]; rfl
    rw [nodeOutcome_missed ascending' list, same]
  · have same : s.pollList.map (fun e => if e.address = a then { e with state := .offline, miss := min 255 (e.miss + 1) } else e) =
        s.pollList := by
      conv => rhs; rw [← List.map_id s.pollList]
      exact List.map_congr_left fun e mem => if_neg fun is => List.find?_eq_none.mp absent e mem (beq_iff_eq.mpr is)
    show s = { s with pollList := _ }
    rw [same]

theorem attemptContended_poll_third {tr : Transaction} {a : Nat} (owner : tr.owner = .poll a) {s : State} (third : s.contention = 2) :
    attemptContended tr s =
      surveyCompletion false (faultSegment (nodeOutcome a false { s with contention := 3, transaction := none })) := by
  unfold attemptContended; dsimp only; rw [third, if_pos (Nat.le_refl 3), owner]

theorem attemptContended_transit_third {tr : Transaction} (owner : tr.owner = .transit) {s : State} (third : 3 ≤ s.contention + 1) :
    attemptContended tr s = faultSegment (endTransit .abandoned [] { s with contention := s.contention + 1 }) := by
  unfold attemptContended; dsimp only; rw [if_pos third, owner]

/-- R146: the line's assertion, where it is acted on. -/
theorem exec_serviceReleaseAsserted {s : State} (awake : s.inReset = false) (active : s.mode ≠ .standby)
    (enabled : s.tables.device.releaseEnable = true) (line : s.releaseLine = false) :
    exec .serviceReleaseAsserted s = .next (releaseSegment { s with releaseLine := true }) := by
  show execServiceReleaseAsserted s = _
  have acted : releaseActed s = true := by unfold releaseActed; simp [active, enabled]
  unfold execServiceReleaseAsserted; dsimp only
  rw [if_pos (by simp [awake, acted, line])]

theorem releaseSegment_poll {s : State} {tr : Transaction} {a : Nat} (segment : s.segment ≠ .released)
    (flying : s.transaction = some tr) (owner : tr.owner = .poll a) :
    releaseSegment s = surveyCompletion false (becomeReleased (nodeOutcome a false { s with transaction := none })) := by
  unfold releaseSegment; dsimp only; rw [if_neg segment, flying]; dsimp only; rw [owner]

theorem releaseSegment_transit {s : State} {tr : Transaction} (segment : s.segment ≠ .released)
    (flying : s.transaction = some tr) (owner : tr.owner = .transit) :
    releaseSegment s = takeHeldTick (becomeReleased (endTransit .abandoned [] s)) := by
  unfold releaseSegment; dsimp only; rw [if_neg segment, flying]; dsimp only; rw [owner]

theorem releaseSegment_idle {s : State} (segment : s.segment ≠ .released) (free : s.transaction = none)
    (other : s.segment ≠ .polling ∨ s.work ≠ []) : releaseSegment s = takeHeldTick (resume (becomeReleased s)) := by
  unfold releaseSegment; dsimp only
  rw [if_neg segment, free]; dsimp only
  exact if_neg fun h => other.elim (fun k => k h.1) (fun k => k h.2)

/-- R142: what a completion that starts on a FAULTED or RELEASED segment leaves. -/
theorem surveyCompletion_alarmed {w t : State} (completes : SurveyCompletes false w t)
    (segment : w.segment = .faulted ∨ w.segment = .released) (off : w.outputs.healthy = false) :
    t.segment = w.segment ∧ t.countdown = w.countdown ∧ t.contention = w.contention ∧ t.transaction = w.transaction ∧
      t.cycleCount = w.cycleCount + 1 ∧ t.pollList = w.pollList ∧ t.outputs.healthy = false ∧ t.tables = w.tables ∧
      t.changes = w.changes ∧ t.transits = w.transits ∧ t.releaseLine = w.releaseLine := by
  obtain ⟨frame, counted, healthy, -⟩ := completes.quiet segment off
  refine ⟨?_, counted rfl, ?_, ?_, ?_, ?_, healthy, ?_, ?_, ?_, ?_⟩ <;> (rw [frame])

/-- Settles O14: the node missed leaves a state that becomes FAULTED or RELEASED; the completion from there runs on a segment that
is not POLLING, so it changes none of the fields named. -/
theorem earlyEndOfAWalkCompletesTheSurvey : Obligations.EarlyEndOfAWalkCompletesTheSurvey := by
  intro s tr a awake flying owner missed noted silent ascending
  have misses : ∀ v : State, v.pollList = s.pollList → nodeOutcome a false v = noted { v with pollList := missed } := fun v list => by
    obtain ⟨found, absent⟩ := nodeOutcome_miss a v (by rw [list]; exact ascending)
    rw [list] at found absent
    cases is : s.pollList.find? (fun e => e.address == a) with
    | none => rw [absent is]; simp only [noted, is]; rfl
    | some e => rw [found e is]; simp only [noted, is]; rfl
  have kept : ∀ v : State, noted v = { v with events := (noted v).events, lost := (noted v).lost } := fun v => by
    cases is : s.pollList.find? (fun e => e.address == a) with
    | none => simp only [noted, is]
    | some e => simp only [noted, is]; split <;> rfl
  have grown : ∀ v : State, QueueGrows v (noted v) := fun v => by
    cases is : s.pollList.find? (fun e => e.address == a) with
    | none => simp only [noted, is]; exact .refl v
    | some e =>
      simp only [noted, is]; split
      · exact .refl v
      · exact post_grows _ _ _ v
  refine ⟨fun phase count segment => ?_, fun active enabled line segment => ?_⟩
  · intro u v
    have fields := kept { s with transaction := none, pollList := missed, contention := 3 }
    have polling : u.segment = .polling := (congrArg State.segment fields).trans segment
    have outputs : u.outputs = s.outputs := (congrArg State.outputs fields).trans rfl
    have counted : u.cycleCount = s.cycleCount := (congrArg State.cycleCount fields).trans rfl
    have faulted : faultSegment u = { v with outputs := silent } := by
      unfold faultSegment
      rw [changeSegment_alarmed (.inl rfl) (by show u.segment ≠ _; rw [polling]; nofun)]
      simp only [polling, outputs, v, silent]
    have ends : exec .contentionMismatch s = .next (surveyCompletion false { v with outputs := silent }) := by
      rw [exec_contentionMismatch awake flying phase, attemptContended_poll_third owner count,
        misses { s with contention := 3, transaction := none } rfl, ← faulted]
    have completes := surveyCompletion_completes false { v with outputs := silent }
    obtain ⟨segment', countdown, contention, transaction, cycles, list, healthy, tables, changes, transits, -⟩ :=
      surveyCompletion_alarmed completes (.inl rfl) rfl
    obtain ⟨-, -, -, grows⟩ := completes.quiet (.inl rfl) rfl
    have before : QueueGrows s u :=
      .trans (t := { s with transaction := none, pollList := missed, contention := 3 }) (.of_same rfl rfl) (grown _)
    have posted : Posted u { v with outputs := silent } .segmentState 0 (detailOf Segment.faulted.code Segment.polling.code) :=
      posted_post .segmentState 0 _ _
    exact ⟨_, ends, completes, segment', countdown, contention.trans ((congrArg State.contention fields).trans rfl),
      transaction.trans ((congrArg State.transaction fields).trans rfl), cycles.trans (congrArg (· + 1) counted),
      list.trans ((congrArg State.pollList fields).trans rfl), healthy, tables.trans ((congrArg State.tables fields).trans rfl),
      changes.trans ((congrArg State.changes fields).trans rfl), transits.trans ((congrArg State.transits fields).trans rfl), (posted.after before).then grows⟩
  · intro u v
    have fields := kept { s with transaction := none, pollList := missed, releaseLine := true }
    have polling : u.segment = .polling := (congrArg State.segment fields).trans segment
    have outputs : u.outputs = s.outputs := (congrArg State.outputs fields).trans rfl
    have counted : u.cycleCount = s.cycleCount := (congrArg State.cycleCount fields).trans rfl
    have released : becomeReleased u = { v with outputs := silent } := by
      rw [becomeReleased_eq (by rw [polling]; nofun)]
      simp only [polling, outputs, v, silent]; rfl
    have ends : exec .serviceReleaseAsserted s = .next (surveyCompletion false { v with outputs := silent }) := by
      rw [exec_serviceReleaseAsserted awake active enabled line,
        releaseSegment_poll (s := { s with releaseLine := true }) (by show s.segment ≠ _; rw [segment]; nofun) flying owner,
        misses { s with releaseLine := true, transaction := none } rfl, ← released]
    have completes := surveyCompletion_completes false { v with outputs := silent }
    obtain ⟨segment', countdown, contention, transaction, cycles, list, healthy, tables, changes, transits, line'⟩ :=
      surveyCompletion_alarmed completes (.inr rfl) rfl
    obtain ⟨-, -, -, grows⟩ := completes.quiet (.inr rfl) rfl
    have before : QueueGrows s u :=
      .trans (t := { s with transaction := none, pollList := missed, releaseLine := true }) (.of_same rfl rfl) (grown _)
    let x := post .segmentState 0 (detailOf Segment.released.code Segment.polling.code)
      { u with segment := .released, contention := 0, countdown := 0 }
    have first : Posted u x .segmentState 0 (detailOf Segment.released.code Segment.polling.code) := posted_post .segmentState 0 _ _
    have growing : QueueGrows u x :=
      .trans (t := { u with segment := .released, contention := 0, countdown := 0 }) (.of_same rfl rfl) (post_grows .segmentState 0 _ _)
    have second : Posted x { v with outputs := silent } .serviceRelease 0 (detailOf 0 1) := posted_post .serviceRelease 0 _ _
    have growing' : QueueGrows x { v with outputs := silent } := .trans (t := v) (post_grows .serviceRelease 0 _ x) (.of_same rfl rfl)
    exact ⟨_, ends, completes, segment', countdown, contention,
      transaction.trans ((congrArg State.transaction fields).trans rfl), cycles.trans (congrArg (· + 1) counted),
      list.trans ((congrArg State.pollList fields).trans rfl), healthy, tables.trans ((congrArg State.tables fields).trans rfl),
      changes.trans ((congrArg State.changes fields).trans rfl), transits.trans ((congrArg State.transits fields).trans rfl),
      line'.trans ((congrArg State.releaseLine fields).trans rfl), (first.after before).then (growing'.trans grows),
      (second.after (before.trans growing)).then grows⟩

/-! ## Ticks (R140 to R147) -/

section
variable {s : State}

theorem takeTick_dropped (active : s.segment ≠ .idle) (busy : s.segment = .polling ∨ s.work ≠ []) : takeTick s = overrun s := by
  unfold takeTick; rw [if_neg active, if_pos busy]

theorem takeTick_waiting (free : s.work = []) (segment : s.segment = .waiting) : takeTick s = startCycle s := by
  simp [takeTick, free, segment]

theorem takeTick_transit (free : s.work = []) (segment : s.segment = .transit) (done : s.transaction = none) :
    takeTick s = startCycle s := by
  simp [takeTick, free, segment, done]

theorem takeTick_held (free : s.work = []) (segment : s.segment = .transit) {tr : Transaction} (flying : s.transaction = some tr) :
    takeTick s = { s with deferredTick := true } := by
  simp [takeTick, free, segment, flying]

/-- R145: a tick of a FAULTED segment, or of a RELEASED one with its line asserted, runs an empty cycle. -/
theorem takeTick_empty (free : s.work = []) (segment : s.segment = .faulted ∨ (s.segment = .released ∧ s.releaseLine = true)) :
    takeTick s = emptyCycle s := by
  rcases segment with is | ⟨is, line⟩
  · simp [takeTick, free, is]
  · simp [takeTick, free, is, line]

/-- R147: the first tick after the line's deassertion starts a cycle from WAITING. -/
theorem takeTick_returned (free : s.work = []) (segment : s.segment = .released) (line : s.releaseLine = false) :
    takeTick s = startCycle (changeSegment .waiting s) := by
  simp [takeTick, free, segment, line]

theorem exec_cycleTick (awake : s.inReset = false) (timer : s.timerOn = true) : exec .cycleTick s = .next (takeTick s) := by
  show live s (if s.timerOn then takeTick s else s) = _
  rw [live_awake awake, if_pos timer]

theorem exec_deferredTick (awake : s.inReset = false) (held : s.deferredTick = true) (done : s.transaction = none)
    (free : s.work = []) : exec .deferredTick s = .next (takeTick { s with deferredTick := false }) := by
  have due : heldTickDue s = true := by simp [heldTickDue, held, done, free]
  show live s (if heldTickDue s then takeHeldTick s else s) = _
  rw [live_awake awake, if_pos due]
  unfold takeHeldTick
  rw [if_pos held]

/-- R159: an apply point that finds hold on, a SAVE in flight or nothing to apply takes nothing. -/
theorem applyPoint_closed (closed : s.hold = true ∨ s.save ≠ none ∨ s.changes = []) : applyPoint s = s := by
  unfold applyPoint
  refine if_neg fun ⟨open_, free, some_⟩ => ?_
  rcases closed with held | saving | empty
  · simp [held] at open_
  · exact saving free
  · exact some_ empty

end

/-- R32: work that begins with the aging ages every channel by its zone's limit, once. -/
theorem runWork_aged {ws : List Work} (once : .age ∉ ws) (u : State) (i : Fin 64) :
    (runWork (.age :: ws) u).channels[i] = ageRecord (channelZone u i).staleLimit u.channels[i] := by
  rw [runWork_cons (w := .age) rfl]
  refine runWork_keeps (P := fun v => v.channels[i] = ageRecord (channelZone u i).staleLimit u.channels[i]) (fun _ _ h => h)
    (fun w mem v h => ?_) (ageChannels_channels u i)
  rw [doWork_channels (fun is => once (is ▸ mem)) v]
  exact h

theorem SurveyCompletes.channels {empty : Bool} {u t : State} (h : SurveyCompletes empty u t) (i : Fin 64) :
    t.channels[i] = ageRecord (channelZone u i).staleLimit u.channels[i] := by
  obtain ⟨zs, gs, cs, d, -, -, counts, rfl⟩ := h
  refine runWork_aged (ws := zs.map .evaluate ++ [.endPass] ++
    (gs.flatMap fun g => [.stepBegins g, .countExpiry g, .stageUpdate g, .startsStops g, .supervise g, .setpoints g]) ++
    cs ++ [.close]) (fun mem => ?_) { u with cycleCount := u.cycleCount + 1, draws := d } i
  simp only [List.mem_append, List.mem_map, List.mem_flatMap, List.mem_cons, List.not_mem_nil, counts.mem_iff,
    reduceCtorEq, false_or, or_false, and_false, exists_false] at mem
  rcases mem with (held | warm) | faulted
  · split at held <;> simp at held
  · split at warm <;> simp at warm
  · split at faulted <;> simp at faulted

/-- Settles O17: an empty cycle is the completion of what the apply point leaves, on a segment that is not POLLING. -/
theorem emptyCyclesAskNoNode : Obligations.EmptyCyclesAskNoNode := by
  intro s awake timer free segment u
  have frame := applyPoint_applyFrame s
  have completes := surveyCompletion_completes true u
  have ends : exec .cycleTick s = .next (surveyCompletion true u) := by
    rw [exec_cycleTick awake timer, takeTick_empty free segment]; rfl
  have same : u.segment = s.segment ∧ u.cycleCount = s.cycleCount ∧ u.transaction = s.transaction ∧ u.transits = s.transits := by
    unfold ApplyFrame at frame
    simp only [u]
    rw [frame]
    exact ⟨rfl, rfl, rfl, rfl⟩
  obtain ⟨segment', cycles, transaction, transits⟩ := same
  have quiet : QuietFrame { u with cycleCount := u.cycleCount + 1 } (surveyCompletion true u) := by
    obtain ⟨zs, gs, cs, d, -, -, -, eq⟩ := completes
    rw [eq]
    have polling : u.segment ≠ .polling := by rw [segment']; rcases segment with is | ⟨is, -⟩ <;> rw [is] <;> nofun
    exact QuietFrame.trans (by rfl) (runWork_quiet _ polling)
  refine ⟨_, ends, completes, ?_, ?_, ?_, ?_, ?_, ?_, fun nothing => ?_, completes.channels⟩
  · rw [quiet]; exact congrArg (· + 1) cycles
  · rw [quiet]; exact segment'
  · rw [quiet]; exact transaction
  · rw [quiet]; exact transits
  · rw [quiet]
  · rw [quiet]
  · have idle : u = s := applyPoint_closed (.inr (.inr nothing))
    rw [quiet, idle]; exact ⟨rfl, rfl⟩

/-- R141: a cycle with nothing to apply starts at the first entry of the poll list, or completes at once. -/
theorem startCycle_starts {s u : State} (closed : s.hold = true ∨ s.save ≠ none ∨ s.changes = []) (kept : u = { s with
    segment := u.segment, outputs := u.outputs, deferredTick := u.deferredTick, events := u.events, lost := u.lost }) :
    (∀ (e : PollEntry) (es : List PollEntry), s.pollList = e :: es → 1 ≤ e.address →
      startCycle u = { u with segment := .polling, deferredTick := false, transaction := some (entryTransaction s e) }) ∧
    (s.pollList = [] →
      SurveyCompletes false { u with segment := .polling, deferredTick := false, transaction := none } (startCycle u)) := by
  have closed' : u.hold = true ∨ u.save ≠ none ∨ u.changes = [] := by rw [kept]; exact closed
  have tables : u.tables = s.tables := by rw [kept]
  have groups : u.groups = s.groups := by rw [kept]
  have fans : u.fans = s.fans := by rw [kept]
  have list : u.pollList = s.pollList := by rw [kept]
  have started : startCycle u = pollAfter 0 { u with segment := .polling, deferredTick := false } := by
    unfold startCycle
    rw [applyPoint_closed (s := { u with segment := .polling, deferredTick := false }) closed']
  rw [started]
  refine ⟨fun e es is low => ?_, fun is => pollAfter_last (s := { u with segment := .polling, deferredTick := false }) ?_⟩
  · rw [pollAfter_next (e := e) (by show u.pollList.find? _ = _; rw [list, is, List.find?_cons_of_pos (by simp; omega)]),
      entryTransaction_congr (s := s) (u := { u with segment := .polling, deferredTick := false }) tables groups fans]
  · show u.pollList.find? _ = _
    rw [list, is]; rfl

/-- Settles O15: each segment state's rule for a tick, and the cycle it starts. -/
theorem ticksAreTakenByTheSegmentState : Obligations.TicksAreTakenByTheSegmentState := by
  intro s awake
  refine ⟨fun closed free => ?_,
    fun timer active busy done => ?_, fun tr timer segment flying => ?_, fun tr timer segment free flying => ?_, fun off => ?_, fun e => ?_⟩
  · intro started
    refine ⟨fun timer segment => ?_, fun timer segment line => ?_, fun held segment done => ?_⟩
    · refine ⟨_, (exec_cycleTick awake timer).trans (congrArg _ (takeTick_waiting free segment)), ?_⟩
      exact startCycle_starts (u := s) closed rfl
    · intro u
      refine ⟨_, (exec_cycleTick awake timer).trans (congrArg _ (takeTick_returned free segment line)), ?_⟩
      have changed : changeSegment .waiting s = { u with outputs := { s.outputs with healthy := healthyFunction u } } := by
        unfold changeSegment; dsimp only
        rw [segment, if_pos (by decide)]; rfl
      rw [changed]
      exact startCycle_starts closed rfl
    · refine ⟨_, (exec_deferredTick awake held done free).trans (congrArg _ (takeTick_transit free segment done)), ?_⟩
      exact startCycle_starts (u := { s with deferredTick := false }) closed rfl
  · rw [exec_cycleTick awake timer, takeTick_dropped active (.inr busy)]; unfold overrun; rw [done]
  · rw [exec_cycleTick awake timer, takeTick_dropped (by rw [segment]; nofun) (.inl segment)]; unfold overrun; rw [flying]
  · rw [exec_cycleTick awake timer, takeTick_held free segment flying]
  · show live s (if s.timerOn then takeTick s else s) = _
    rw [live_awake awake, off]; rfl
  · intro sent
    refine ⟨fun sensor => ?_, fun f drive => ⟨fun own => ?_, fun handed => ?_⟩⟩
    · unfold pollFrame; rw [sensor]; rfl
    · unfold pollFrame; rw [drive]; exact if_neg (by rw [show s.groups[fanGroup s f].handOver = false from own]; nofun)
    · unfold pollFrame; rw [drive]; exact if_pos handed

/-! ## The service release line (R146, R147) -/

theorem endTransit_of_ne_reply {r : TransitResult} (other : r ≠ .reply) (reading : List Byte) (s : State) :
    endTransit r reading s = { s with transaction := none, transits := s.transits.map (completedEntry r reading) } := by
  unfold endTransit marksOf
  cases s.transits.find? fun e => e.state == .sent with
  | none => rfl
  | some e => exact if_neg fun h => other h.2

theorem takeHeldTick_none {s : State} (none_ : s.deferredTick = false) : takeHeldTick s = s := by
  unfold takeHeldTick; rw [none_]; rfl

/-- Settles O21: the edge by what it finds on the segment; the work that waits runs on a segment that is not POLLING. -/
theorem serviceReleaseEdges : Obligations.ServiceReleaseEdges := by
  intro s
  refine ⟨fun inactive => ?_, fun awake active enabled => ?_⟩
  · have idle : releaseActed s = false := by
      unfold releaseActed
      rcases inactive with is | is <;> simp [is]
    refine ⟨?_, ?_⟩
    · show execServiceReleaseAsserted s = _
      unfold execServiceReleaseAsserted; rw [idle]; simp
    · show execServiceReleaseDeasserted s = _
      unfold execServiceReleaseDeasserted; rw [idle]; simp
  intro released
  have becomes : ∀ u : State, u.segment = s.segment → u.outputs = s.outputs → s.segment ≠ .released →
      becomeReleased { u with releaseLine := true } = released u := fun u segment outputs other => by
    rw [becomeReleased_eq (by show u.segment ≠ _; rw [segment]; exact other)]
    simp only [segment, outputs, released]
  refine ⟨fun line done held free segment => ?_, fun line done held busy other => ?_, fun tr line segment flying owner => ?_,
    fun line segment => ?_, fun line segment => ?_⟩
  · have other : s.segment ≠ .released := by rcases segment with is | is <;> rw [is] <;> nofun
    rw [exec_serviceReleaseAsserted awake active enabled line,
      releaseSegment_idle (s := { s with releaseLine := true }) other done (.inl (by rcases segment with is | is <;> (show s.segment ≠ _; rw [is]; nofun))),
      becomes s rfl rfl other]
    have rested : resume (released s) = released s := by
      have none_ : (released s).work = [] := free
      unfold resume; rw [none_]
      show { released s with work := [] } = _
      rw [← none_]
    rw [rested, takeHeldTick_none (s := released s) held]
  · have frame := runWork_quiet s.work (s := released s) (by show Segment.released ≠ _; nofun)
    refine ⟨runWork s.work (released s), ?_, rfl, by rw [frame]; rfl, by rw [frame]; exact done, by rw [frame]; rfl, by rw [frame]; rfl⟩
    rw [exec_serviceReleaseAsserted awake active enabled line,
      releaseSegment_idle (s := { s with releaseLine := true }) other done (.inr busy), becomes s rfl rfl other]
    have goes : resume (released s) = runWork s.work (released s) := rfl
    rw [goes, takeHeldTick_none (by rw [frame]; exact held)]
  · intro u
    have ended := becomes { s with transaction := none, transits := s.transits.map (completedEntry .abandoned []) } rfl rfl
      (by rw [segment]; nofun)
    have taken : exec .serviceReleaseAsserted s = .next (takeHeldTick u) := by
      rw [exec_serviceReleaseAsserted awake active enabled line,
        releaseSegment_transit (s := { s with releaseLine := true }) (by show s.segment ≠ _; rw [segment]; nofun) flying owner,
        endTransit_of_ne_reply (by nofun)]
      exact congrArg (fun v => Host.Outcome.next (takeHeldTick v)) ended
    refine ⟨fun held => ?_, fun held timer => ?_⟩
    · rw [taken, takeHeldTick_none (s := u) held]
    · rw [taken, exec_cycleTick (s := { u with deferredTick := false }) awake timer]
      exact congrArg Host.Outcome.next (if_pos held)
  · rw [exec_serviceReleaseAsserted awake active enabled line]
    unfold releaseSegment; rw [if_pos segment]
  · have acted : releaseActed s = true := by unfold releaseActed; simp [active, enabled]
    show execServiceReleaseDeasserted s = _
    unfold execServiceReleaseDeasserted; dsimp only
    rw [if_pos (by simp [awake, acted, line, segment])]

end Sys2Proof.Machine
end

section
/-! PROOFS. Transit dispatch and the ends of transit attempts (O13). -/

namespace Sys2Proof.Machine

/-! ## Dispatch (R143) -/

/-- R176, R177: a WAITING entry that is not permitted is DENIED. -/
def deniedEntry (e : TransitEntry) : TransitEntry := if e.state = .waiting then { e with state := .done .denied } else e

/-- R143, R176: from `u`, whose dispatch has sent `n` frames, with the queue `es`, dispatch goes to `t`. -/
def Dispatches (u : State) (es : List TransitEntry) (n : Nat) (t : State) : Prop :=
  (∀ before e after, es = before ++ e :: after → e.state = .waiting → permitted u e.kind e.dest = true →
    (∀ d ∈ before, d.state = .waiting → permitted u d.kind d.dest = false) →
    t = { u with
      segment := .transit, dispatched := n + 1, transits := before.map deniedEntry ++ { e with state := .sent } :: after
      transaction :=
        some { owner := .transit, frame := fieldFrame e.dest e.kind e.payload, left := 0, phase := .sending } }) ∧
  ((∀ e ∈ es, e.state = .waiting → permitted u e.kind e.dest = false) →
    t = { u with segment := .waiting, dispatched := n, transits := es.map deniedEntry, transaction := none })

/-- R176: what the permits read. -/
theorem permitted_congr {s u : State} (tables : u.tables = s.tables) (zones : u.zones = s.zones) (groups : u.groups = s.groups)
    (kind : FrameKind) (dest : Nat) : permitted u kind dest = permitted s kind dest := by
  cases kind with
  | query => rfl
  | config =>
    show (!configDenied u dest) = !configDenied s dest
    simp only [configDenied, tables, zones]
  | drive =>
    show drivePermitted u dest = drivePermitted s dest
    simp only [drivePermitted, fanGroup, tables, groups]

theorem takeWaiting_congr {s u : State} (tables : u.tables = s.tables) (zones : u.zones = s.zones) (groups : u.groups = s.groups)
    (es : List TransitEntry) : takeWaiting u es = takeWaiting s es := by
  induction es with
  | nil => rfl
  | cons e es ih => unfold takeWaiting; rw [permitted_congr tables zones groups, ih]

section
variable {s : State}

theorem takeWaiting_refused {e : TransitEntry} (refused : e.state = .waiting → permitted s e.kind e.dest = false)
    (es : List TransitEntry) : takeWaiting s (e :: es) = (deniedEntry e :: (takeWaiting s es).1, (takeWaiting s es).2) := by
  unfold deniedEntry
  by_cases waits : e.state = .waiting
  · simp [takeWaiting, waits, refused waits]
  · simp [takeWaiting, waits]

theorem takeWaiting_none {es : List TransitEntry}
    (refused : ∀ e ∈ es, e.state = .waiting → permitted s e.kind e.dest = false) :
    takeWaiting s es = (es.map deniedEntry, none) := by
  induction es with
  | nil => rfl
  | cons e es ih =>
    rw [takeWaiting_refused (refused e List.mem_cons_self), ih fun d mem => refused d (List.mem_cons_of_mem _ mem)]; rfl

theorem takeWaiting_first {before : List TransitEntry} {e : TransitEntry} (waits : e.state = .waiting)
    (may : permitted s e.kind e.dest = true)
    (refused : ∀ d ∈ before, d.state = .waiting → permitted s d.kind d.dest = false) (after : List TransitEntry) :
    takeWaiting s (before ++ e :: after) = (before.map deniedEntry ++ { e with state := .sent } :: after, some e) := by
  induction before with
  | nil => simp [takeWaiting, waits, may]
  | cons d before ih =>
    rw [List.cons_append, takeWaiting_refused (refused d List.mem_cons_self),
      ih fun c mem => refused c (List.mem_cons_of_mem _ mem)]
    rfl

theorem dispatchNext_allowed (allowed : s.dispatched < s.tables.device.transitAllowance) {es : List TransitEntry}
    {e : TransitEntry} (taken : takeWaiting s s.transits = (es, some e)) :
    dispatchNext s = { s with
      transits := es, dispatched := s.dispatched + 1
      transaction := some { owner := .transit, frame := fieldFrame e.dest e.kind e.payload, left := 0, phase := .sending } } := by
  unfold dispatchNext; dsimp only; rw [if_neg (by omega), taken]

theorem dispatchNext_exhausted (allowed : s.dispatched < s.tables.device.transitAllowance) {es : List TransitEntry}
    (taken : takeWaiting s s.transits = (es, none)) : dispatchNext s = { s with transits := es, segment := .waiting } := by
  unfold dispatchNext; dsimp only; rw [if_neg (by omega), taken]

end

/-- R143: dispatch goes on by the permits, while it has an allowance left. -/
theorem dispatchNext_dispatches {u : State} {es : List TransitEntry} {n : Nat} (allowed : n < u.tables.device.transitAllowance) :
    Dispatches u es n (dispatchNext { u with segment := .transit, dispatched := n, transits := es, transaction := none }) := by
  have walk := takeWaiting_congr (s := u) (u := { u with segment := .transit, dispatched := n, transits := es, transaction := none })
    rfl rfl rfl es
  refine ⟨fun before e after queue waits may refused => ?_, fun refused => ?_⟩
  · refine dispatchNext_allowed (s := { u with segment := .transit, dispatched := n, transits := es, transaction := none }) allowed ?_
    refine walk.trans ?_
    rw [queue]; exact takeWaiting_first waits may refused after
  · exact dispatchNext_exhausted (s := { u with segment := .transit, dispatched := n, transits := es, transaction := none }) allowed
      (walk.trans (takeWaiting_none refused))

/-! ## The last piece of a completion (R142) -/

theorem runWork_nil (s : State) : runWork [] s = { s with work := [] } := rfl

theorem close_work (s : State) : (doWork .close s).work = s.work := by
  unfold doWork; dsimp only; split
  · exact dispatchNext_work _
  · rfl

theorem with_no_work {s : State} (free : s.work = []) : { s with work := [] } = s := by rw [← free]

theorem runWork_close {s : State} (free : s.work = []) : runWork [.close] s = doWork .close s := by
  rw [runWork_cons rfl, runWork_nil]
  exact with_no_work ((close_work s).trans free)

theorem dispatchNext_work_congr (vs : List Work) (s : State) :
    dispatchNext { s with work := vs } = { dispatchNext s with work := vs } := by
  have walk : takeWaiting { s with work := vs } s.transits = takeWaiting s s.transits :=
    takeWaiting_congr (s := s) (u := { s with work := vs }) rfl rfl rfl _
  unfold dispatchNext; dsimp only; rw [walk]
  split
  · rfl
  · split <;> rfl

theorem close_work_congr (vs : List Work) (s : State) : doWork .close { s with work := vs } = { doWork .close s with work := vs } := by
  unfold doWork; dsimp only; split
  · exact dispatchNext_work_congr vs { s with segment := .transit, dispatched := 0 }
  · rfl

/-- Work done to its end leaves none waiting, and the close is done after it. -/
theorem runWork_close_after (ws : List Work) {s : State} (done : (runWork ws s).work = []) :
    runWork (ws ++ [.close]) s = runWork [.close] (runWork ws s) := by
  induction ws generalizing s with
  | nil => 
    show runWork [.close] s = runWork [.close] { s with work := [] }
    rw [runWork_cons (w := .close) (s := s) rfl, runWork_cons (w := .close) (s := { s with work := [] }) rfl, close_work_congr [] s]; rfl
  | cons w ws ih =>
    by_cases ends : endsCount s w = true
    · unfold runWork at done; rw [if_pos ends] at done; cases done
    · have going : endsCount s w = false := by simpa using ends
      rw [List.cons_append, runWork_cons going, runWork_cons going] at *
      exact ih done

/-- R142, R143: at the close a POLLING segment's dispatch begins; another segment dispatches nothing. -/
theorem close_dispatches {u : State} (free : u.work = []) (done : u.transaction = none) (segment : u.segment = .polling)
    (allowed : 1 ≤ u.tables.device.transitAllowance) : Dispatches u u.transits 0 (runWork [.close] u) := by
  have begins : runWork [.close] u =
      dispatchNext { u with segment := .transit, dispatched := 0, transits := u.transits, transaction := none } := by
    rw [runWork_close free]
    unfold doWork; dsimp only
    rw [if_pos segment, ← done]; rfl
  rw [begins]; exact dispatchNext_dispatches allowed

theorem close_quiet {u : State} (free : u.work = []) (segment : u.segment ≠ .polling) : runWork [.close] u = u := by
  rw [runWork_close free]
  unfold doWork; dsimp only; exact if_neg segment

/-! ## Settling marks (R29) -/

theorem forEachFree_done {α : Type} {xs : List α} (once : xs.Nodup) {f : α → State → State} {P : List α → State → Prop} {s : State}
    (start : ∀ n, P [] { s with draws := n })
    (turn : ∀ done, ∀ x ∈ xs, x ∉ done → ∀ t, P done t → P (x :: done) (f x t)) :
    ∃ ys, (∀ x, x ∈ ys ↔ x ∈ xs) ∧ P ys (forEachFree xs f s) := by
  have perm := freeOrder_perm s.draws xs
  have fold : ∀ (ys done : List α) (t : State), (∀ y ∈ ys, y ∈ xs ∧ y ∉ done) → ys.Nodup → P done t →
      P (ys.reverse ++ done) (ys.foldl (fun t x => f x t) t) := by
    intro ys
    induction ys with
    | nil => exact fun _ _ _ _ h => h
    | cons y ys ih =>
      intro done t fresh nodup h
      obtain ⟨own, rest⟩ := List.nodup_cons.mp nodup
      have first := turn done y (fresh y List.mem_cons_self).1 (fresh y List.mem_cons_self).2 t h
      have next := ih (y :: done) (f y t) (fun z mem => ⟨(fresh z (List.mem_cons_of_mem _ mem)).1, fun is => by
        rcases List.mem_cons.mp is with rfl | old
        · exact own mem
        · exact (fresh z (List.mem_cons_of_mem _ mem)).2 old⟩) rest first
      simpa using next
  refine ⟨(freeOrder s.draws xs).reverse ++ [], fun x => by simp [perm.mem_iff], ?_⟩
  unfold forEachFree
  exact fold _ [] _ (fun y mem => ⟨perm.mem_iff.mp mem, by simp⟩) (perm.nodup_iff.mpr once) (by rw [drawn_eq]; exact start _)

/-- R29: what a settling mark makes of each channel record. -/
theorem settleRecord_eq (n : Nat) (c : ChannelRecord) :
    settleRecord n c =
      if c.health = .good ∨ c.health = .held then { c with health := .settling, settleLeft := n }
      else if c.health = .settling then { c with settleLeft := n } else c := by
  unfold settleRecord
  cases is : c.health <;> simp

/-- R29, R35: the marks of a node's channels, each with its event. -/
theorem markNode_channels (a : Nat) (s : State) :
    markNode a s = { s with
      channels := (markNode a s).channels, events := (markNode a s).events, lost := (markNode a s).lost
      draws := (markNode a s).draws } ∧
    ∀ i : Fin 64,
      let n := s.tables.zones[s.tables.bindings[i].zone].settleCount
      let marked : Prop := s.tables.bindings[i].valid = true ∧ s.tables.bindings[i].node = a
      (marked → (markNode a s).channels[i] = settleRecord n s.channels[i] ∧
        (s.channels[i].health = .good ∨ s.channels[i].health = .held →
          Posted s (markNode a s) .channelHealth i.val (detailOf Health.settling.code s.channels[i].health.code))) ∧
      (¬ marked → (markNode a s).channels[i] = s.channels[i]) := by
  let marks (t : State) : Prop := t = { s with channels := t.channels, events := t.events, lost := t.lost, draws := t.draws }
  let settled (i : Fin 64) := settleRecord s.tables.zones[s.tables.bindings[i].zone].settleCount s.channels[i]
  obtain ⟨ys, mem, frame, grows, channels⟩ := forEachFree_done (s := s) (f := markSettling)
    (xs := (List.finRange 64).filter fun i => s.tables.bindings[i].valid && s.tables.bindings[i].node == a)
    ((List.nodup_finRange 64).filter _)
    (P := fun done t => marks t ∧ QueueGrows s t ∧ ∀ i : Fin 64,
      (i ∈ done → t.channels[i] = settled i ∧ (s.channels[i].health = .good ∨ s.channels[i].health = .held →
        Posted s t .channelHealth i.val (detailOf Health.settling.code s.channels[i].health.code))) ∧
      (i ∉ done → t.channels[i] = s.channels[i]))
    (fun n => ⟨rfl, .of_same rfl rfl, fun i => ⟨nofun, fun _ => rfl⟩⟩)
    (fun done i _ fresh t h => by
      obtain ⟨frame, grows, channels⟩ := h
      have kept : t.channels[i] = s.channels[i] := (channels i).2 fresh
      have zone : channelZone t i = s.tables.zones[s.tables.bindings[i].zone] := by rw [frame]; rfl
      have mark : markSettling i t = postHealth i s.channels[i].health (settled i).health (setChannel i (settled i) t) := by
        unfold markSettling; dsimp only; rw [zone, kept]
      have moved := markSettling_frame i t
      have grows' := (markSettling_calm i t).grows
      have written : ∀ j : Fin 64, (markSettling i t).channels[j] = if j = i then settled i else t.channels[j] := fun j => by
        rw [mark, postHealth_channels]
        show (t.channels.set i (settled i))[j] = _
        by_cases is : j = i
        · subst is; simp only [Fin.getElem_fin, Vector.getElem_set_self, if_pos]
        · have differs : i.val ≠ j.val := fun same => is (Fin.ext same.symm)
          rw [if_neg is]; simp only [Fin.getElem_fin, Vector.getElem_set_ne _ _ differs]
      refine ⟨?_, grows.trans grows', fun j => ⟨fun mem => ?_, fun other => ?_⟩⟩
      · simp only [marks]; rw [moved, frame]
      · rw [written]
        by_cases is : j = i
        · subst is
          refine ⟨if_pos rfl, fun healthy => ?_⟩
          have posts : (settled j).health = .settling := by
            simp only [settled]; rw [settleRecord_eq, if_pos healthy]
          refine Posted.after grows ?_
          rw [mark, postHealth_eq, posts, if_neg (by rcases healthy with is | is <;> rw [is] <;> nofun)]
          exact (posted_post _ _ _ _).congr rfl rfl rfl
        · obtain ⟨value, posted⟩ := (channels j).1 ((List.mem_cons.mp mem).resolve_left is)
          exact ⟨(if_neg is).trans value, fun healthy => (posted healthy).then grows'⟩
      · rw [written, if_neg fun is => other (List.mem_cons.mpr (.inl is))]
        exact (channels j).2 fun old => other (List.mem_cons_of_mem _ old))
  refine ⟨frame, fun i => ?_⟩
  have member : i ∈ ys ↔ s.tables.bindings[i].valid = true ∧ s.tables.bindings[i].node = a := by
    rw [mem]; simp
  intro n marked
  exact ⟨fun is => (channels i).1 (member.mpr is), fun other => (channels i).2 fun is => other (member.mp is)⟩

/-! ## The ends of a transit attempt (R143, R144, R177) -/

/-- R143, R144: what follows a transit attempt, found with a tick held or not, that left `u` with the queue `es`. -/
def Follows (u : State) (es : List TransitEntry) (t : State) : Prop :=
  (u.deferredTick = true → t = { u with transaction := none, transits := es }) ∧
  (u.deferredTick = false → u.tables.device.transitAllowance ≤ u.dispatched →
    t = { u with transaction := none, segment := .waiting, transits := es }) ∧
  (u.deferredTick = false → u.dispatched < u.tables.device.transitAllowance → Dispatches u es u.dispatched t)

theorem afterTransit_follows {u : State} (segment : u.segment = .transit) (es : List TransitEntry) :
    Follows u es (afterTransit { u with transaction := none, transits := es }) := by
  refine ⟨fun held => if_pos held, fun free spent => ?_, fun free allowed => ?_⟩
  · unfold afterTransit
    rw [if_neg (by rw [free]; nofun)]
    unfold dispatchNext; dsimp only
    exact if_pos spent
  · have next : afterTransit { u with transaction := none, transits := es } =
        dispatchNext { u with segment := .transit, dispatched := u.dispatched, transits := es, transaction := none } := by
      unfold afterTransit
      rw [if_neg (by rw [free]; nofun), ← segment]
    rw [next]; exact dispatchNext_dispatches allowed

/-- R177: an attempt that is not a CONFIG's reply ends in its entry and marks nothing. -/
theorem transitEnd_follows {u : State} (segment : u.segment = .transit) {r : TransitResult} (reading : List Byte)
    (unmarked : r ≠ .reply ∨ ∀ e ∈ u.transits, e.state = .sent → e.kind ≠ .config) :
    Follows u (u.transits.map (completedEntry r reading)) (afterTransit (endTransit r reading u)) := by
  have ended : endTransit r reading u = { u with transaction := none, transits := u.transits.map (completedEntry r reading) } := by
    unfold endTransit marksOf
    cases found : u.transits.find? fun e => e.state == .sent with
    | none => rfl
    | some e =>
      refine if_neg fun ⟨config, reply⟩ => unmarked.elim (fun other => other reply) fun none_ => ?_
      exact none_ e (List.mem_of_find?_eq_some found) (by simpa using List.find?_some found) config
  rw [ended]; exact afterTransit_follows segment _

/-- Settles O13: each command that ends an attempt ends it in its entry; dispatch then goes on by the permits. -/
theorem transitAttemptsEndInTheirEntry : Obligations.TransitAttemptsEndInTheirEntry := by
  unfold Obligations.TransitAttemptsEndInTheirEntry
  intro deny dispatched
  refine ⟨fun ws u done => runWork_close_after ws done,
    fun u free done => ⟨close_quiet free, fun segment allowed => close_dispatches free done segment allowed⟩, ?_⟩
  intro s tr awake flying owner segment ended followed
  have timedOut : followed s .timeout [] (attemptFailed tr s) := by
    rw [attemptFailed_transit owner]; exact transitEnd_follows segment [] (.inl nofun)
  refine ⟨fun phase chars f received valid => ?_, fun phase => ⟨_, exec_framingError awake flying phase, timedOut⟩,
    fun phase chars bad => ⟨_, ?_, timedOut⟩, fun phase => ⟨_, exec_replyTimeout awake flying phase, timedOut⟩,
    fun phase below => ⟨_, ?_, transitEnd_follows (u := { s with contention := s.contention + 1 }) segment [] (.inl nofun)⟩,
    fun phase third => ?_⟩
  · have replied : exec (.fieldReceptionEnd chars) s = .next (afterTransit (endTransit .reply f.payload s)) := by
      rw [exec_fieldReceptionEnd awake flying phase, endReception_answered received valid, attemptAnswered_transit owner]
    refine ⟨fun other => ⟨_, replied, transitEnd_follows segment f.payload (.inr other)⟩, fun e found config => ?_⟩
    let left : State := { s with transaction := none, transits := s.transits.map (completedEntry .reply f.payload) }
    obtain ⟨frame, channels⟩ := markNode_channels e.dest left
    let u : State := { s with
      channels := (markNode e.dest left).channels, events := (markNode e.dest left).events, lost := (markNode e.dest left).lost
      draws := (markNode e.dest left).draws }
    have marks : endTransit .reply f.payload s = { u with
        transaction := none, transits := u.transits.map (completedEntry .reply f.payload) } := by
      unfold endTransit marksOf
      rw [found]
      exact (if_pos ⟨config, rfl⟩).trans frame
    refine ⟨_, u, replied, ?_, rfl, fun i => ?_⟩
    · rw [marks]; exact afterTransit_follows (u := u) segment _
    · obtain ⟨own, other⟩ := channels i
      intro b c n marked
      refine ⟨fun is healthy => ?_, fun is settling => ?_, fun unchanged => ?_⟩
      · obtain ⟨value, posted⟩ := own is
        refine ⟨value.trans ((settleRecord_eq n c).trans (if_pos healthy)), ?_⟩
        exact (posted healthy).congr rfl rfl rfl
      · refine (own is).1.trans ((settleRecord_eq n c).trans ?_)
        rw [if_neg (by rw [settling]; nofun), if_pos settling]
      · by_cases is : marked
        · obtain ⟨good, held, settling⟩ := unchanged.resolve_left fun h => h is
          refine (own is).1.trans ((settleRecord_eq n c).trans ?_)
          rw [if_neg fun h => h.elim good held, if_neg settling]
        · exact other is
  · rw [exec_fieldReceptionEnd awake flying phase, endReception_failed bad]
  · rw [exec_contentionMismatch awake flying phase, attemptContended_transit owner below]
  · rw [exec_contentionMismatch awake flying phase, attemptContended_transit_third owner third, endTransit_of_ne_reply (r := .abandoned) nofun]
    unfold faultSegment
    rw [changeSegment_alarmed (.inl rfl) (by show s.segment ≠ _; rw [segment]; nofun)]
    simp only [segment]; rfl

end Sys2Proof.Machine
end

section
/-! PROOFS. The steps of a group in a survey completion, and the counts that come to their end (O18, O19). -/

namespace Sys2Proof.Machine

/-! ## The expiry count and the stage update (R92, R87) -/

theorem runWork_waits {w : Work} {s : State} (ends : endsCount s w = true) (ws : List Work) :
    runWork (w :: ws) s = { s with work := w :: ws } := by
  unfold runWork; rw [if_pos ends]

theorem expiryEnds_cons {r : GroupRecord} {c : Context} {cs : List Context} (stack : r.stack = c :: cs) :
    expiryEnds r = (c.expiry == 1) := by
  unfold expiryEnds; rw [stack]

theorem expiryEnds_nil {r : GroupRecord} (stack : r.stack = []) : expiryEnds r = false := by
  unfold expiryEnds; rw [stack]

theorem countExpiry_nil {g : Fin 4} {s : State} (stack : s.groups[g].stack = []) : countExpiry g s = s := by
  unfold countExpiry; dsimp only; rw [stack]

theorem countExpiry_cons {g : Fin 4} {s : State} {c : Context} {cs : List Context} (stack : s.groups[g].stack = c :: cs) :
    countExpiry g s =
      if 2 ≤ c.expiry then setGroup g { s.groups[g] with stack := { c with expiry := c.expiry - 1 } :: cs } s else s := by
  unfold countExpiry; dsimp only; rw [stack]

/-- R92: the command of an expiry, where the completion waits for it. -/
theorem exec_overrideExpired {s : State} {g : Fin 4} {ws : List Work} (awake : s.inReset = false)
    (waits : waitingCount s = some (.countExpiry g, ws)) : exec .overrideExpired s = .next (runWork ws (expireTop g s)) := by
  show execOverrideExpired s = _
  unfold execOverrideExpired; rw [waits, live_awake awake]

theorem expireTop_cons {g : Fin 4} {s : State} {c : Context} {cs : List Context} (stack : s.groups[g].stack = c :: cs) :
    expireTop g s = judgeAlarm (changeStack g cs (post .overrideExpired g.val c.tag s)) := by
  unfold expireTop; rw [stack]

/-- A hand-over judged stays so when an event was posted before it and the outputs are judged after it. -/
theorem HandOverJudged.congr {s s' t t' : State} {g : Fin 4} (h : HandOverJudged s' t g) (grows : QueueGrows s s')
    (tables : s'.tables = s.tables) (fans : s'.fans = s.fans) (groups : s'.groups = s.groups)
    (fans' : t'.fans = t.fans) (groups' : t'.groups = t.groups) (mode' : t'.mode = t.mode) (grows' : QueueGrows t t') :
    HandOverJudged s t' g := by
  obtain ⟨flag, posted, handed⟩ := h
  refine ⟨by rw [groups', mode']; exact flag, fun f changed => ?_, fun f => ?_⟩
  · rw [fans', ← fans] at changed ⊢
    exact ((posted f changed).after grows).then grows'
  · rw [fans', handed, tables, fans]
    congr 1
    unfold handedFan startedFan stageSpeed
    simp only [tables, fans, groups, groups']

/-- Settles O18: the count by the top context, and the expiry as a changed stack behind its event. -/
theorem overridesExpireAtTheGroupStep : Obligations.OverridesExpireAtTheGroupStep := by
  refine ⟨fun s g ws => ?_, fun s g ws c cs awake work stack expires => ?_⟩
  · intro r counts
    have going : endsCount s (.countExpiry g) = false → counts = runWork ws (countExpiry g s) := fun h => runWork_cons h ws
    refine ⟨fun stack => ?_, fun c cs stack => ⟨fun none_ => ?_, fun more => ?_, fun one => ?_⟩, runWork_cons rfl ws⟩
    · rw [going (expiryEnds_nil stack), countExpiry_nil stack]
    · rw [going ((expiryEnds_cons stack).trans (by rw [none_]; rfl)), countExpiry_cons stack, if_neg (by omega)]
    · rw [going ((expiryEnds_cons stack).trans (by simp; omega)), countExpiry_cons stack, if_pos more]; rfl
    · exact runWork_waits (w := .countExpiry g) (by show expiryEnds r = true; rw [expiryEnds_cons stack, one]; rfl) ws
  · have waits : waitingCount s = some (.countExpiry g, ws) :=
      waitingCount_eq_some.mpr ⟨work, (expiryEnds_cons stack).trans (by rw [expires]; rfl)⟩
    let p := post .overrideExpired g.val c.tag s
    have frame : changeStack g cs p = _ := changeStack_groupFrame g cs p
    have own := changeStack_own g cs p
    refine ⟨expireTop g s, exec_overrideExpired awake waits, ?_⟩
    rw [expireTop_cons stack]
    refine ⟨?_, ?_, ?_, ?_, fun k other => changeStack_other other cs p, ?_, ?_, ?_, ?_, ?_, ?_, ?_, ?_⟩
    · exact (congrArg GroupRecord.stack own).trans rfl
    · exact (congrArg GroupRecord.commanded own).trans rfl
    · exact (congrArg GroupRecord.floor own).trans rfl
    · exact (congrArg GroupRecord.effective own).trans rfl
    · exact (congrArg State.tables frame).trans rfl
    · exact (congrArg State.channels frame).trans rfl
    · exact (congrArg State.zones frame).trans rfl
    · exact (congrArg State.mode frame).trans rfl
    · exact (congrArg State.segment frame).trans rfl
    · exact (congrArg State.changes frame).trans rfl
    · exact (changeStack_judged g cs p).congr (post_grows _ _ _ s) rfl rfl rfl rfl rfl rfl (judgeAlarm_calm _).grows
    · exact ((posted_post .overrideExpired g.val c.tag s).then (changeStack_grows g cs p)).then (judgeAlarm_calm _).grows

/-! ## Fan records written in turn (R109 a, d) -/

theorem foldl_fansOnly {act : State → Fin 8 → State} (turn : ∀ f t, act t f = { t with fans := (act t f).fans }) (xs : List (Fin 8))
    (s : State) : xs.foldl act s = { s with fans := (xs.foldl act s).fans } := by
  induction xs generalizing s with
  | nil => rfl
  | cons x xs ih =>
    have first := turn x s
    rw [List.foldl_cons, ih (act s x)]
    rw [first]

theorem foldl_fanRecords {s : State} {act : State → Fin 8 → State} {new : Fin 8 → FanRecord}
    (turn : ∀ f t, t = { s with fans := t.fans } → t.fans[f] = s.fans[f] →
      act t f = { t with fans := (act t f).fans } ∧ ∀ k : Fin 8, (act t f).fans[k] = if f = k then new f else t.fans[k]) :
    ∀ k : Fin 8, ((List.finRange 8).foldl act s).fans[k] = new k := by
  have fold : ∀ (xs : List (Fin 8)) (t : State), xs.Nodup → t = { s with fans := t.fans } →
      (∀ f ∈ xs, t.fans[f] = s.fans[f]) → ∀ k : Fin 8, (xs.foldl act t).fans[k] = if k ∈ xs then new k else t.fans[k] := by
    intro xs
    induction xs with
    | nil => exact fun _ _ _ _ _ => rfl
    | cons x xs ih =>
      intro t once frame found k
      obtain ⟨fresh, rest⟩ := List.nodup_cons.mp once
      obtain ⟨frame', fans⟩ := turn x t frame (found x List.mem_cons_self)
      have later := ih (act t x) rest (by rw [frame', frame]) (fun f mem => by
        rw [fans, if_neg fun is : x = f => fresh (is ▸ mem)]; exact found f (List.mem_cons_of_mem _ mem)) k
      rw [List.foldl_cons, later, fans]
      by_cases now : x = k
      · subst now; simp [fresh]
      · simp [Ne.symm now, now]
  intro k
  rw [fold _ s (List.nodup_finRange 8) rfl (fun _ _ => rfl) k, if_pos (List.mem_finRange k)]

theorem beginGroupStep_fans (g : Fin 4) (s : State) (f : Fin 8) :
    (beginGroupStep g s).fans[f] = if s.tables.fans[f].group = g then { s.fans[f] with fresh := false } else s.fans[f] := by
  refine foldl_fanRecords (new := fun f => if s.tables.fans[f].group = g then { s.fans[f] with fresh := false } else s.fans[f])
    (fun f t frame found => ?_) f
  have tables : t.tables = s.tables := by rw [frame]
  have acts : ageStart g t f =
      if s.tables.fans[f].group = g then setFan f { s.fans[f] with fresh := false } t else t := by
    unfold ageStart; rw [tables, found]
  rw [acts]
  split
  · exact ⟨rfl, fun k => fans_setFan f k _ t⟩
  · refine ⟨rfl, fun k => ?_⟩
    split
    · rename_i is; subst is; exact found
    · rfl

theorem writeSetpoints_fans (g : Fin 4) (s : State) (f : Fin 8) :
    (writeSetpoints g s).fans[f] =
      if s.tables.fans[f].group = g ∧ (s.fans[f].state = .starting ∨ s.fans[f].state = .running) then
        { s.fans[f] with setpoint := stageSpeed s f } else s.fans[f] := by
  refine foldl_fanRecords (new := fun f => if s.tables.fans[f].group = g ∧ (s.fans[f].state = .starting ∨ s.fans[f].state = .running)
    then { s.fans[f] with setpoint := stageSpeed s f } else s.fans[f]) (fun f t frame found => ?_) f
  have tables : t.tables = s.tables := by rw [frame]
  have speed : stageSpeed t f = stageSpeed s f := by unfold stageSpeed; rw [frame]
  have acts : writeSetpoint g t f =
      if s.tables.fans[f].group = g ∧ (s.fans[f].state = .starting ∨ s.fans[f].state = .running) then
        setFan f { s.fans[f] with setpoint := stageSpeed s f } t else t := by
    unfold writeSetpoint
    simp only [tables, found, runningSetpoint_eq, speed, FanState.active_iff]
  rw [acts]
  split
  · exact ⟨rfl, fun k => fans_setFan f k _ t⟩
  · refine ⟨rfl, fun k => ?_⟩
    split
    · rename_i is; subst is; exact found
    · rfl

/-! ## Judgements (R110, R111) -/

/-- R109 (b): the fan is judged in this group step. -/
def Judged (s : State) (f : Fin 8) : Prop :=
  (s.fans[f].state = .starting ∨ s.fans[f].state = .running) ∧ s.fans[f].fresh = false ∧ s.tables.fans[f].airflowSlot ≠ none

/-- R110, R111: the fan's airflow channel shows flow. -/
def Flows (s : State) (f : Fin 8) : Prop :=
  ∃ i : Fin 64, s.tables.fans[f].airflowSlot = some i ∧ (s.channels[i].health = .good ∨ s.channels[i].health = .held) ∧
    s.tables.fans[f].proofLevel ≤ s.channels[i].filtered

/-- R110: the proof timer of the fan comes to 0 in this group step. -/
def TimesOut (s : State) (f : Fin 8) : Prop :=
  Judged s f ∧ ¬ Flows s f ∧ s.fans[f].state = .starting ∧ s.fans[f].timer ≤ 1

/-- R112: the record of a fan as it fails. -/
def failedFan (why : Reason) (r : FanRecord) : FanRecord :=
  { r with state := .failed, timer := 0, streak := 0, reason := why, setpoint := 0 }

section
variable {s : State} {f : Fin 8}

theorem judgedFlow_none (other : ¬ Judged s f) : judgedFlow s f = none := by
  unfold judgedFlow
  split
  · rename_i runs
    rw [Bool.and_eq_true, FanState.active_iff] at runs
    have slotless : s.tables.fans[f].airflowSlot = none := by
      by_contra slot; exact other ⟨runs.1, by simpa using runs.2, slot⟩
    rw [slotless]; rfl
  · rfl

theorem judgedFlow_judged (judged : Judged s f) :
    (Flows s f → judgedFlow s f = some true) ∧ (¬ Flows s f → judgedFlow s f = some false) := by
  obtain ⟨runs, old, slot⟩ := judged
  obtain ⟨i, is⟩ := Option.ne_none_iff_exists'.mp slot
  have shows_ : judgedFlow s f = some (showsFlow s i s.tables.fans[f].proofLevel) := by
    unfold judgedFlow
    rw [if_pos (by rw [(FanState.active_iff _).mpr runs, old]; rfl), is]; rfl
  have flow : Flows s f ↔ showsFlow s i s.tables.fans[f].proofLevel = true := by
    unfold Flows showsFlow
    rw [Bool.and_eq_true, Health.isHealthy_iff, decide_eq_true_eq, is]
    exact ⟨fun ⟨j, same, h⟩ => by cases same; exact h, fun h => ⟨i, rfl, h⟩⟩
  rw [shows_]
  exact ⟨fun h => by rw [flow.mp h], fun h => by rw [Bool.eq_false_iff.mpr fun k => h (flow.mpr k)]⟩

theorem judgedFlow_isSome : (judgedFlow s f).isSome = true ↔ Judged s f := by
  by_cases judged : Judged s f
  · by_cases flow : Flows s f
    · rw [(judgedFlow_judged judged).1 flow]; simpa using judged
    · rw [(judgedFlow_judged judged).2 flow]; simpa using judged
  · rw [judgedFlow_none judged]; simpa using judged

theorem proofRunsOut_iff : proofRunsOut s f = true ↔ TimesOut s f := by
  unfold proofRunsOut TimesOut
  rw [Bool.and_eq_true, Bool.and_eq_true, beq_iff_eq, beq_iff_eq, decide_eq_true_eq]
  by_cases judged : Judged s f
  · by_cases flow : Flows s f
    · simp [(judgedFlow_judged judged).1 flow, flow]
    · simp [(judgedFlow_judged judged).2 flow, flow, judged]
  · simp [judgedFlow_none judged, judged]

/-- R110, R111: the record of a fan after its judgement, if it has one. -/
def judgedFan (s : State) (f : Fin 8) : FanRecord :=
  let r := s.fans[f]
  if judgedFlow s f = some true then
    if r.state = .starting then { r with state := .running, timer := 0, streak := 0 } else { r with streak := 0 }
  else if judgedFlow s f = some false then
    if proofRunsOut s f then failedFan .noProof r
    else if r.state = .starting then { r with timer := r.timer - 1 }
    else if 3 ≤ r.streak + 1 then failedFan .lostFlow r
    else { r with streak := r.streak + 1 }
  else r

theorem judgedFan_congr {t : State} (frame : TurnFrame s t) (fan : t.fans[f] = s.fans[f]) : judgedFan t f = judgedFan s f := by
  have flow : judgedFlow t f = judgedFlow s f := by
    unfold judgedFlow showsFlow; rw [fan, frame.tables, frame.channels]
  have out : proofRunsOut t f = proofRunsOut s f := by unfold proofRunsOut; rw [fan, flow]
  unfold judgedFan; rw [flow, out, fan]

theorem judgeFan_turn (f : Fin 8) (s : State) : FanTurn f (judgedFan s f) s (judgeFan f s) := by
  unfold judgedFan judgeFan; dsimp only
  cases flow : judgedFlow s f with
  | none => exact .none f s
  | some flows =>
    cases flows with
    | true =>
      rw [if_pos rfl]; dsimp only
      split
      · exact .changeFan f _ s
      · exact .setFan rfl
    | false =>
      rw [if_neg (by decide), if_pos rfl]; dsimp only
      split
      · exact .changeFan f _ s
      · split
        · exact .setFan rfl
        · split
          · exact .changeFan f _ s
          · exact .setFan rfl

end

theorem mem_judgedFans {s : State} {g : Fin 4} {f : Fin 8} : f ∈ judgedFans s g ↔ s.tables.fans[f].group = g ∧ Judged s f := by
  unfold judgedFans
  rw [List.mem_filter, mem_fansOf, judgedFlow_isSome]

theorem judgedFans_nodup (s : State) (g : Fin 4) : (judgedFans s g).Nodup := ((List.nodup_finRange 8).filter _).filter _

theorem judgeGroup_turns (g : Fin 4) (s : State) : FanTurns (judgedFans s g) (judgedFan s) s (judgeGroup g s) :=
  forEachFree_fanTurns_once (judgedFans_nodup s g) fun f _ t frame same => by
    rw [← judgedFan_congr frame same]; exact (judgeFan_turn f t).judgeAlarm

/-! ## Step 3 of a group step (R109) -/

/-- R123: the level of VENT_PROVEN, a pending one keeping its level. -/
theorem ventLevel_eq (s : State) :
    ventLevel s = if ventFunction s = .pending then s.outputs.ventProven else decide (ventFunction s = .proven) := by
  unfold ventLevel
  cases ventFunction s <;> rfl

theorem startsAndStops_fans (g : Fin 4) (s : State) :
    (∀ f : Fin 8, s.groups[g].commanded = 0 → (startsAndStops g s).fans[f] =
      if s.tables.fans[f].group = g ∧ (s.fans[f].state = .starting ∨ s.fans[f].state = .running) then restingFan .off s.fans[f]
      else s.fans[f]) ∧
    (∀ f : Fin 8, 0 < s.groups[g].commanded → (startsAndStops g s).fans[f] =
      if f ∈ s.groups[g].runSet ∧ s.fans[f].state = .off then startedFan s f else s.fans[f]) ∧
    FansPosted s (startsAndStops g s) := by
  obtain ⟨stops, starts⟩ := startsAndStops_turns g s
  refine ⟨fun f zero => ?_, fun f above => ?_, ?_⟩
  · have listed : (f ∈ (fansOf s g).filter fun f => s.fans[f].state.active) ↔
        s.tables.fans[f].group = g ∧ (s.fans[f].state = .starting ∨ s.fans[f].state = .running) := by
      rw [List.mem_filter, mem_fansOf, FanState.active_iff]
    rw [(stops zero).fans]; simp only [listed]
  · have listed : (f ∈ s.groups[g].runSet.filter fun f => s.fans[f].state == .off) ↔
        f ∈ s.groups[g].runSet ∧ s.fans[f].state = .off := by
      rw [List.mem_filter, beq_iff_eq]
    rw [(starts above).fans]; simp only [listed]
  · rcases Nat.eq_zero_or_pos s.groups[g].commanded with zero | above
    · exact (stops zero).posted
    · exact (starts above).posted

/-- R109 (c): the failover, when a run-set fan has failed. -/
theorem superviseGroup_eq (g : Fin 4) (s : State) :
    let v := judgeGroup g s
    ((∀ f ∈ s.groups[g].runSet, v.fans[f].reason = .none) → superviseGroup g s = v) ∧
    ((∃ f ∈ s.groups[g].runSet, v.fans[f].reason ≠ .none) → superviseGroup g s = recomputeRunSet g v) := by
  intro v
  have groups : v.groups = s.groups := (judgeGroup_turnFrame g s).groups
  have failed : (v.groups[g].runSet.any fun f => v.fans[f].reason != .none) = true ↔
      ∃ f ∈ s.groups[g].runSet, v.fans[f].reason ≠ .none := by
    rw [groups, List.any_eq_true]; simp only [bne_iff_ne]
  unfold superviseGroup failOver
  refine ⟨fun fine => if_neg fun h => ?_, fun h => if_pos (failed.mpr h)⟩
  obtain ⟨f, mem, reason⟩ := failed.mp h
  exact reason (fine f mem)

/-- R105 to R107, R110: what a failover leaves of its group, and of the fans that join the run set. -/
theorem recomputeRunSet_failover (g : Fin 4) (v : State) :
    let u := recomputeRunSet g v
    u.groups[g] = { v.groups[g] with
      runSet := selectRunSet v.tables v.fans g
      condition := conditionOf v.tables g (selectRunSet v.tables v.fans g).length } ∧
    (∀ f ∈ u.groups[g].runSet, v.fans[f].reason = .none) ∧
    ∀ f ∈ u.groups[g].runSet, f ∉ v.groups[g].runSet → v.fans[f].state = .off → v.groups[g].handOver = false →
      0 < v.groups[g].commanded → u.fans[f].state = if v.tables.fans[f].airflowSlot.isSome then .starting else .running := by
  intro u
  have own : u.groups[g] = _ := (congrArg (fun gs => gs[g]) (recomputeRunSet_groups g v)).trans (Vector.getElem_set_self _)
  have runSet : u.groups[g].runSet = selectRunSet v.tables v.fans g := congrArg GroupRecord.runSet own
  refine ⟨own, fun f mem => ?_, fun f mem joins off clear above => ?_⟩
  · rw [runSet] at mem
    exact (mem_eligibleFans.mp (List.mem_of_mem_take mem)).2.2
  · rw [runSet] at mem
    rw [(recomputeRunSet_fans g v).1]
    unfold movedFan
    rw [if_neg fun h => joins h.1, if_pos ⟨joins, mem, off, clear, above⟩, startedFan_state]
    cases v.tables.fans[f].airflowSlot <;> rfl

theorem endsCount_supervise (g : Fin 4) (s : State) :
    endsCount s (.supervise g) = true ↔ ∃ f, s.tables.fans[f].group = g ∧ TimesOut s f := by
  show (judgedFans s g).any (proofRunsOut s) = true ↔ _
  rw [List.any_eq_true]
  simp only [mem_judgedFans, proofRunsOut_iff]
  exact ⟨fun ⟨f, ⟨own, _⟩, out⟩ => ⟨f, own, out⟩, fun ⟨f, own, out⟩ => ⟨f, ⟨own, out.1⟩, out⟩⟩

/-- R109 (b): where one fan alone is judged there is one order, and its judgement is the group's. -/
theorem judgeGroup_single {g : Fin 4} {s : State} {f : Fin 8} (own : s.tables.fans[f].group = g) (judged : Judged s f)
    (single : ∀ f', s.tables.fans[f'].group = g ∧ Judged s f' → f' = f) : judgeGroup g s = judgeAlarm (judgeFan f s) := by
  have list : judgedFans s g = [f] := by
    have perm : (judgedFans s g).Perm [f] := (List.perm_ext_iff_of_nodup (judgedFans_nodup s g) (List.nodup_singleton f)).mpr
      fun f' => by
        rw [mem_judgedFans, List.mem_singleton]
        exact ⟨single f', fun is => is ▸ ⟨own, judged⟩⟩
    exact List.perm_singleton.mp perm
  unfold judgeGroup
  rw [list]
  unfold forEachFree
  have order : freeOrder s.draws [f] = [f] := List.perm_singleton.mp (freeOrder_perm _ _)
  rw [order]; rfl

/-- R112: the one fan whose proof timer ends fails with NO_PROOF. -/
theorem judgeFan_timesOut {s : State} {f : Fin 8} (out : TimesOut s f) :
    judgeFan f s = post .fanState f.val (detailOf (FanState.failed.code + 16 * FanState.starting.code) Reason.noProof.code)
      (setFan f (failedFan .noProof s.fans[f]) s) := by
  have runs := proofRunsOut_iff.mpr out
  obtain ⟨judged, dry, starting, -⟩ := out
  unfold judgeFan; dsimp only
  rw [(judgedFlow_judged judged).2 dry]; dsimp only
  rw [if_pos runs]
  unfold failFan changeFan; dsimp only
  rw [if_neg (by rw [starting]; nofun), starting]; rfl

/-- R110, R111: the judgement of each case. -/
theorem judgedFan_cases {s : State} {f : Fin 8} (judged : Judged s f) :
    (Flows s f → judgedFan s f = if s.fans[f].state = .starting then { s.fans[f] with state := .running, timer := 0, streak := 0 }
      else { s.fans[f] with streak := 0 }) ∧
    (TimesOut s f → judgedFan s f = failedFan .noProof s.fans[f]) ∧
    (¬ Flows s f → s.fans[f].state = .starting → 1 < s.fans[f].timer →
      judgedFan s f = { s.fans[f] with timer := s.fans[f].timer - 1 }) ∧
    (¬ Flows s f → s.fans[f].state = .running → judgedFan s f =
      if s.fans[f].streak + 1 < 3 then { s.fans[f] with streak := s.fans[f].streak + 1 } else failedFan .lostFlow s.fans[f]) := by
  have failing : ¬ Flows s f → judgedFan s f =
      if proofRunsOut s f then failedFan .noProof s.fans[f]
      else if s.fans[f].state = .starting then { s.fans[f] with timer := s.fans[f].timer - 1 }
      else if 3 ≤ s.fans[f].streak + 1 then failedFan .lostFlow s.fans[f]
      else { s.fans[f] with streak := s.fans[f].streak + 1 } := fun dry => by
    unfold judgedFan; dsimp only
    rw [(judgedFlow_judged judged).2 dry, if_neg (by decide), if_pos rfl]
  have still : ¬ TimesOut s f → ¬ proofRunsOut s f = true := fun h k => h (proofRunsOut_iff.mp k)
  refine ⟨fun flow => ?_, fun out => ?_, fun dry starting more => ?_, fun dry running => ?_⟩
  · unfold judgedFan; dsimp only
    rw [(judgedFlow_judged judged).1 flow, if_pos rfl]
  · rw [failing out.2.1, if_pos (proofRunsOut_iff.mpr out)]
  · rw [failing dry, if_neg (still fun out => absurd out.2.2.2 (by omega)), if_pos starting]
  · rw [failing dry, if_neg (still fun out => by have := out.2.2.1; rw [running] at this; cases this),
      if_neg (by rw [running]; nofun)]
    by_cases third : 3 ≤ s.fans[f].streak + 1
    · rw [if_pos third, if_neg (by omega)]
    · rw [if_neg third, if_pos (by omega)]

/-! ## The ends of the counts (R158, R145, R186) -/

section
variable {s : State} {ws : List Work} (awake : s.inReset = false)
include awake

theorem exec_proofTimeout {g : Fin 4} (waits : waitingCount s = some (.supervise g, ws)) :
    exec .proofTimeout s = .next (runWork ws (superviseGroup g s)) := by
  show execProofTimeout s = _
  unfold execProofTimeout; rw [waits, live_awake awake]

theorem exec_holdExpired (waits : waitingCount s = some (.countHold, ws)) :
    exec .holdExpired s = .next (runWork ws (expireHold s)) := by
  show execHoldExpired s = _
  unfold execHoldExpired; rw [waits, live_awake awake]

theorem exec_warmupCountEnd (waits : waitingCount s = some (.countWarmup, ws)) :
    exec .warmupCountEnd s = .next (runWork ws (enterRun s)) := by
  show execWarmupCountEnd s = _
  unfold execWarmupCountEnd; rw [waits, live_awake awake]

theorem exec_faultedCountdownEnd (waits : waitingCount s = some (.countFaulted, ws)) :
    exec .faultedCountdownEnd s = .next (runWork ws (changeSegment .waiting { s with countdown := 0, contention := 0 })) := by
  show execFaultedCountdownEnd s = _
  unfold execFaultedCountdownEnd; rw [waits, live_awake awake]

end

/-- R158, R186, R145: when a count comes to its end. -/
theorem endsCount_counts (s : State) :
    (endsCount s .countHold = true ↔ s.hold = true ∧ s.tables.device.holdLimit ≤ s.holdCount + 1) ∧
    (endsCount s .countWarmup = true ↔ s.mode = .warmup ∧ s.warmupLeft ≤ 1) ∧
    (endsCount s .countFaulted = true ↔ s.segment = .faulted ∧ s.countdown ≤ 1) := by
  simp [endsCount]

/-- Settles O19: each part of step 3 as its turns over the fans, each count by whether it ends. -/
theorem countsEndWithTheirEffects : Obligations.CountsEndWithTheirEffects := by
  intro s ws awake
  obtain ⟨holdEnds, warmupEnds, faultedEnds⟩ := endsCount_counts s
  refine ⟨fun g => ?_, fun g => ?_, ?_, fun work hold limit => ?_, fun work faulted count => ?_⟩
  · intro runs b v w
    obtain ⟨stops, starts, posted⟩ := startsAndStops_fans g s
    refine ⟨runWork_cons rfl ws, ?_, beginGroupStep_fans g s, runWork_cons rfl ws, startsAndStops_fanFrame g s, stops, starts, posted,
      ?_, ?_, writeSetpoints_fans g s⟩
    · exact foldl_fansOnly (act := ageStart g) (fun f t => by unfold ageStart; split <;> rfl) _ s
    · rw [runWork_cons rfl]
      show runWork ws (judgeFans w) = _
      unfold judgeFans; rw [ventLevel_eq]
    · exact foldl_fansOnly (act := writeSetpoint g) (fun f t => by unfold writeSetpoint; split <;> rfl) _ s
  · intro judged flow timesOut failed v u
    have turns := judgeGroup_turns g s
    have cases_ : ∀ f, judged f → v.fans[f] = judgedFan s f := fun f is => by
      rw [turns.fans, if_pos (mem_judgedFans.mpr is)]
    obtain ⟨fine, failsOver⟩ := superviseGroup_eq g s
    refine ⟨turns.frame, fun f other => ?_, fun f is flows => ?_, fun f out => ?_, fun f is dry starting more => ?_,
      fun f is dry running => ?_, turns.posted, fine, fun some_ => ⟨failsOver some_, ?_⟩, fun going => ?_, fun work ends => ?_,
      fun f out single => ?_⟩
    · rw [turns.fans, if_neg fun mem => other (mem_judgedFans.mp mem)]
    · rw [cases_ f is, (judgedFan_cases is.2).1 flows]
    · rw [cases_ f out.1, (judgedFan_cases out.1.2).2.1 ⟨out.1.2, out.2⟩]; rfl
    · rw [cases_ f is, (judgedFan_cases is.2).2.2.1 dry starting more]
    · rw [cases_ f is, (judgedFan_cases is.2).2.2.2 dry running]; rfl
    · have groups : v.groups = s.groups := turns.frame.groups
      have tables : v.tables = s.tables := turns.frame.tables
      have over_ := recomputeRunSet_failover g v
      have is : u = recomputeRunSet g v := failsOver some_
      rw [← is, groups, tables] at over_
      rw [tables]; exact over_
    · exact runWork_cons (Bool.eq_false_iff.mpr fun h => by
        obtain ⟨f, own, out⟩ := (endsCount_supervise g s).mp h
        exact going f ⟨⟨own, out.1⟩, out.2⟩) ws
    · obtain ⟨f, is, rest⟩ := ends
      exact exec_proofTimeout awake (waitingCount_eq_some.mpr ⟨work, (endsCount_supervise g s).mpr ⟨f, is.1, is.2, rest⟩⟩)
    · have is := out.1
      rw [show v = judgeAlarm (judgeFan f s) from judgeGroup_single is.1 is.2 fun f' h => single f' h,
        judgeFan_timesOut ⟨is.2, out.2⟩]
      rfl
  · intro after
    refine ⟨fun hold below => ?_, fun hold limit => runWork_waits (holdEnds.mpr ⟨hold, limit⟩) ws, fun clear => ?_, fun warm more => ?_,
      fun warm last => runWork_waits (warmupEnds.mpr ⟨warm, last⟩) ws, fun faulted more => ?_,
      fun faulted last => runWork_waits (faultedEnds.mpr ⟨faulted, last⟩) ws⟩
    · refine (runWork_cons (Bool.eq_false_iff.mpr fun h => absurd (holdEnds.mp h).2 (by omega)) ws).trans ?_
      exact congrArg (runWork ws) (if_pos hold)
    · refine (runWork_cons (Bool.eq_false_iff.mpr fun h => by rw [(holdEnds.mp h).1] at clear; cases clear) ws).trans ?_
      exact congrArg (runWork ws) (if_neg (by rw [clear]; nofun))
    · refine (runWork_cons (Bool.eq_false_iff.mpr fun h => absurd (warmupEnds.mp h).2 (by omega)) ws).trans ?_
      exact congrArg (runWork ws) (if_pos warm)
    · refine (runWork_cons (Bool.eq_false_iff.mpr fun h => absurd (faultedEnds.mp h).2 (by omega)) ws).trans ?_
      exact congrArg (runWork ws) (if_pos faulted)
  · exact exec_holdExpired awake (waitingCount_eq_some.mpr ⟨work, holdEnds.mpr ⟨hold, limit⟩⟩)
  · rw [exec_faultedCountdownEnd awake (waitingCount_eq_some.mpr ⟨work, faultedEnds.mpr ⟨faulted, count⟩⟩)]
    unfold changeSegment; dsimp only
    rw [faulted, if_pos (by decide)]

end Sys2Proof.Machine
end

section
/-! PROOFS. The functions of the outputs and the changes of mode (O20, O33, O34). -/

namespace Sys2Proof.Machine

/-! ## The functions of the outputs (R123, R126) -/

theorem healthyFunction_iff (v : State) :
    healthyFunction v = true ↔ v.mode = .run ∧
      (∀ z : Fin 16, v.zones[z].gas ≠ .fault ∧ v.zones[z].noSense = false ∧ v.zones[z].spillBlind = false) ∧
      v.segment ≠ .faulted ∧ v.segment ≠ .released ∧ v.storeValid = true ∧
      ∀ g : Fin 4, v.groups[g].condition ≠ .degraded ∧ v.groups[g].condition ≠ .unavailable := by
  have zones : ∀ p : ZoneRecord → Bool, v.zones.toList.all p = true ↔ ∀ z : Fin 16, p v.zones[z] = true := fun p => by
    simp only [List.all_eq_true, Vector.mem_toList_iff, Vector.mem_iff_getElem]
    exact ⟨fun h z => h _ ⟨z, z.isLt, rfl⟩, fun h r ⟨i, hi, is⟩ => is ▸ h ⟨i, hi⟩⟩
  have groups : ∀ p : GroupRecord → Bool, v.groups.toList.all p = true ↔ ∀ g : Fin 4, p v.groups[g] = true := fun p => by
    simp only [List.all_eq_true, Vector.mem_toList_iff, Vector.mem_iff_getElem]
    exact ⟨fun h z => h _ ⟨z, z.isLt, rfl⟩, fun h r ⟨i, hi, is⟩ => is ▸ h ⟨i, hi⟩⟩
  unfold healthyFunction
  simp only [Bool.and_eq_true, zones, groups, beq_iff_eq, Bool.not_eq_true', Bool.or_eq_false_iff, beq_eq_false_iff_ne, and_assoc]

/-- R123: a run-set fan of an enabled group that calls for air. -/
def CalledFan (v : State) (f : Fin 8) : Prop :=
  ∃ g : Fin 4, 0 < v.groups[g].commanded ∧ f ∈ v.groups[g].runSet ∧
    ∃ f' : Fin 8, v.tables.fans[f'].enabled = true ∧ v.tables.fans[f'].group = g

theorem allProven_iff (v : State) :
    allProven v = true ↔ ∀ f, CalledFan v f → v.fans[f].state = .running ∨ v.fans[f].state = .manual := by
  have enabled : ∀ g, groupEnabled v.tables g = true ↔ ∃ f' : Fin 8, v.tables.fans[f'].enabled = true ∧ v.tables.fans[f'].group = g :=
    fun g => by
      rw [← Bool.not_eq_false, groupEnabled_iff]; simp
  have reads : ∀ f, readsProven v f = true ↔ v.fans[f].state = .running ∨ v.fans[f].state = .manual := fun f => by
    simp [readsProven]
  unfold allProven CalledFan
  simp only [List.all_eq_true, List.mem_finRange, forall_const, Bool.or_eq_true, Bool.not_eq_true', Bool.and_eq_false_iff,
    decide_eq_false_iff_not, reads]
  constructor
  · rintro all f ⟨g, above, mem, one⟩
    rcases all g with (off | still) | proven
    · rw [(enabled g).mpr one] at off; cases off
    · exact absurd above still
    · exact proven f mem
  · intro all g
    by_cases one : groupEnabled v.tables g = true
    · by_cases above : 0 < v.groups[g].commanded
      · exact .inr fun f mem => all f ⟨g, above, mem, (enabled g).mp one⟩
      · exact .inl (.inr above)
    · exact .inl (.inl (by simpa using one))

theorem ventFunction_cases (v : State) :
    let unproven : Prop := v.mode ≠ .run ∨ ∃ g : Fin 4, v.groups[g].condition = .unavailable
    (unproven → ventFunction v = .unproven) ∧
    (¬ unproven → (∃ f, CalledFan v f ∧ (v.fans[f].state = .starting ∨ v.fans[f].state = .off)) → ventFunction v = .pending) ∧
    (¬ unproven → (∀ f, CalledFan v f → v.fans[f].state = .running ∨ v.fans[f].state = .manual) → ventFunction v = .proven) := by
  intro unproven
  unfold ventFunction
  refine ⟨fun is => if_pos is, fun other ⟨f, called, stands⟩ => ?_, fun other all => ?_⟩
  · rw [if_neg other, if_neg fun proven => ?_]
    have := (allProven_iff v).mp proven f called
    rcases stands with is | is <;> rw [is] at this <;> rcases this with h | h <;> cases h
  · rw [if_neg other, if_pos ((allProven_iff v).mpr all)]

/-! ## The groups at a mode change (R106, R83) -/

/-- Only the run set and the condition of a group's record changed. -/
def SetChanged (r r' : GroupRecord) : Prop := r' = { r with runSet := r'.runSet, condition := r'.condition }

theorem SetChanged.trans {r r' r'' : GroupRecord} (h : SetChanged r r') (k : SetChanged r' r'') : SetChanged r r'' := by
  unfold SetChanged at *; rw [h] at k; exact k

theorem recomputeRunSet_setChanged (g : Fin 4) (s : State) (h : Fin 4) :
    SetChanged s.groups[h] (recomputeRunSet g s).groups[h] := by
  rw [recomputeRunSet_groups]
  by_cases same : g = h
  · subst same; simp only [Fin.getElem_fin, Vector.getElem_set_self]; rfl
  · have ne : g.val ≠ h.val := fun k => same (Fin.ext k)
    simp only [Fin.getElem_fin, Vector.getElem_set_ne _ _ ne]; rfl

theorem forEachGroup_setChanged (gs : List (Fin 4)) (s : State) (h : Fin 4) :
    SetChanged s.groups[h] (forEachGroup gs recomputeRunSet s).groups[h] :=
  forEachGroup_induction (P := fun t => SetChanged s.groups[h] t.groups[h]) rfl (fun _ _ k => k)
    fun g _ t k => k.trans (recomputeRunSet_setChanged g t h)

/-- R83, R85, R93: after a mode change each group's record is recomputed, but for its run set and condition. -/
theorem regroup_record (s : State) (g : Fin 4) : SetChanged (restagedGroup s g) (regroup s).groups[g] := by
  have staged := (forEachGroup_restaged (List.nodup_finRange 4) s).groups g
  rw [if_pos (List.mem_finRange g)] at staged
  rw [← staged]
  exact forEachGroup_setChanged _ _ g

theorem regroup_stages (s : State) (g : Fin 4) : demandOf (regroup s) g = demandOf s g ∧ floorOf (regroup s) g = floorOf s g := by
  have frame := regroup_groupFrame s
  exact stages_congr frame.mode (by rw [frame.tables]) (by unfold memberZones; rw [frame.tables]) fun z _ => by rw [frame]

/-- R83, R85: at a change into WARMUP or RUN every group's stages follow their inputs, and the floor rule holds. -/
theorem regroup_fresh {s : State} (active : s.mode ≠ .standby) :
    FreshStages (regroup s) ∧
      ∀ g : Fin 4, (regroup s).groups[g].stack = s.groups[g].stack ∧ (regroup s).groups[g].floor ≤ (regroup s).groups[g].commanded := by
  have mode : (regroup s).mode = s.mode := (regroup_groupFrame s).mode
  refine ⟨fun g => ?_, fun g => ?_⟩
  · have record : (regroup s).groups[g] = _ := regroup_record s g
    have staged := restagedGroup_eq s g
    obtain ⟨demand, floor⟩ := regroup_stages s g
    have effective : effectiveOf s.mode (regroup s).groups[g] = effectiveOf s.mode (restagedGroup s g) :=
      effectiveOf_congr (by rw [record]) (by rw [record]) (by rw [record])
    rw [demand, floor, mode, effective]
    exact ⟨(congrArg GroupRecord.demand record).trans (congrArg GroupRecord.demand staged),
      (congrArg GroupRecord.floor record).trans (congrArg GroupRecord.floor staged),
      (congrArg GroupRecord.effective record).trans (congrArg GroupRecord.effective staged)⟩
  · have record := regroup_record s g
    have staged := restagedGroup_eq s g
    refine ⟨by rw [record, staged], ?_⟩
    rw [record, staged]; dsimp only
    split
    · exact Nat.le_refl _
    · rename_i reached
      exact Nat.le_of_not_lt fun low => reached ⟨active, low⟩

/-- Settles O20: the end of the count is a mode change, its regrouping and the judgement of the four functions. -/
theorem warmupEndsInRun : Obligations.WarmupEndsInRun := by
  refine ⟨fun v => ?_, fun s ws awake work warm last quiet => ?_⟩
  · intro unproven called
    obtain ⟨un, pending, proven⟩ := ventFunction_cases v
    refine ⟨un, pending, proven, chargeFunction_iff v, beaconFunction_iff v, healthyFunction_iff v, fun ws => ?_⟩
    rw [runWork_cons rfl]
    show runWork ws (judgeAll v) = _
    unfold judgeAll; rw [ventLevel_eq]
  · obtain ⟨x, is⟩ : ∃ x, x = regroup (changeMode .run { s with warmupLeft := 0 }) := ⟨_, rfl⟩
    have frame := is ▸ regroup_groupFrame (changeMode .run { s with warmupLeft := 0 })
    have lowered : Lowers (changeMode .run { s with warmupLeft := 0 }) x := by
      rw [is]; exact (forEachGroup_lowers restage_lowers _).trans (forEachGroup_lowers recomputeRunSet_lowers _)
    have vent : x.outputs.ventProven = false := by
      by_contra on
      have held : s.outputs.ventProven = true := lowered.vent (by simpa using on)
      rw [quiet] at held; cases held
    have fresh := regroup_fresh (s := changeMode .run { s with warmupLeft := 0 }) nofun
    rw [← is] at fresh
    obtain ⟨fresh, groups⟩ := fresh
    have zones : x.zones = s.zones := by rw [frame]; rfl
    have mode : x.mode = .run := by rw [frame]; rfl
    have segment : x.segment = s.segment := by rw [frame]; rfl
    have stored : x.storeValid = s.storeValid := by rw [frame]; rfl
    have ends : exec .warmupCountEnd s = .next (runWork ws (judgeAll x)) := by
      rw [exec_warmupCountEnd awake (waitingCount_eq_some.mpr ⟨work, (endsCount_counts s).2.1.mpr ⟨warm, last⟩⟩), is]; rfl
    refine ⟨judgeAll x, ends, mode, ?_, ?_, zones, ?_, ?_, segment, ?_, ?_, ?_, fresh, groups, ?_, ?_, ?_, ?_⟩
    · show x.warmupLeft = 0; rw [frame]; rfl
    · have posted : Posted s (changeMode .run { s with warmupLeft := 0 }) .modeChange 0 (detailOf Mode.run.code Mode.warmup.code) := by
        rw [← warm]; exact posted_post .modeChange 0 _ _
      rw [is]; exact posted.then ((regroup_calm _).grows.trans (judgeAll_calm _).grows)
    · show x.channels = s.channels; rw [frame]; rfl
    · show x.tables = s.tables; rw [frame]; rfl
    · show x.timerOn = s.timerOn; rw [frame]; rfl
    · show x.changes = s.changes; rw [frame]; rfl
    · show x.transits = s.transits; rw [frame]; rfl
    · refine (chargeFunction_iff x).trans ?_
      rw [zones]; exact and_iff_right mode
    · show ventLevel x = true ↔ ventFunction x = .proven
      rw [ventLevel_eq, vent]
      cases ventFunction x <;> simp
    · refine (beaconFunction_iff x).trans ?_
      rw [zones]
    · refine (healthyFunction_iff x).trans ?_
      rw [zones, segment, stored]
      exact and_iff_right mode

/-! ## STANDBY entry (R187) -/

theorem exec_standby_asked {s : State} (listening : s.Listening) (src : Byte) :
    exec (.standby s.station (s.asked 0x59 src [])) s =
      .next (answered 0x59 src .done [] (if s.mode = .standby then s else enterStandby s)) :=
  congrArg Host.Outcome.next (answerRequest_asked listening 0x59 src (Nat.zero_le _) (withoutData standbyWork))

theorem exec_run_asked {s : State} (listening : s.Listening) (src : Byte) :
    exec (.run s.station (s.asked 0x58 src [])) s =
      .next (answered 0x58 src .done [] (if s.mode = .standby then enterWarmup s else s)) :=
  congrArg Host.Outcome.next (answerRequest_asked listening 0x58 src (Nat.zero_le _) (withoutData runRequestWork))

/-- R148: a change of segment state that posts, posts SEGMENT_STATE. -/
theorem changeSegment_posted {new : Segment} {s : State} (posts : segmentPosts s.segment new = true) :
    Posted s (changeSegment new s) .segmentState 0 (detailOf new.code s.segment.code) := by
  have judged : ∀ t : State, Posted s t .segmentState 0 (detailOf new.code s.segment.code) →
      Posted s (judgeHealthy t) .segmentState 0 (detailOf new.code s.segment.code) := fun t h => h.congr rfl rfl rfl
  unfold changeSegment; dsimp only
  rw [if_pos posts]
  exact judged _ ((posted_post .segmentState 0 _ { s with segment := new }).congr rfl rfl rfl)

/-- R149: the field port and the counts at STANDBY entry, the mode already changed. -/
def standbyBefore (s : State) : State := standbyPort (changeMode .standby { s with warmupLeft := 0 })

/-- R36, R66, R99, R117: every block's records at STANDBY entry, from the port's. -/
def standbyRecords (t : State) : State :=
  { t with channels := restartedChannels t.tables
           zones := Vector.replicate 16 (ZoneRecord.cleared .inactive)
           groups := Vector.ofFn fun g => standbyGroup t.groups[g]
           fans := Vector.ofFn fun f => standbyFan t.fans[f] }

theorem enterStandby_eq (s : State) :
    enterStandby s = judgeAll (forEachGroup (List.finRange 4) recomputeRunSet (standbyRecords (standbyBefore s))) := rfl

theorem standbyBefore_frame (s : State) :
    (standbyBefore s).mode = .standby ∧ (standbyBefore s).groups = s.groups ∧ (standbyBefore s).fans = s.fans := by
  have frame := changeSegment_frame .idle { changeMode .standby { s with warmupLeft := 0 } with
    transaction := none, timerOn := false, deferredTick := false, countdown := 0, contention := 0, work := []
    pollList := (changeMode .standby { s with warmupLeft := 0 }).pollList.map standbyNode
    transits := (changeMode .standby { s with warmupLeft := 0 }).transits.map cancelEntry }
  unfold SegmentFrame at frame
  unfold standbyBefore standbyPort
  rw [frame]
  exact ⟨rfl, rfl, rfl⟩

/-- R99, R117: the group and fan records at STANDBY entry. -/
theorem enterStandby_records (s : State) :
    (∀ g : Fin 4, SetChanged (standbyGroup s.groups[g]) (enterStandby s).groups[g]) ∧
      ∀ f : Fin 8, (enterStandby s).fans[f] = standbyFan s.fans[f] := by
  obtain ⟨mode, groups, fans⟩ := standbyBefore_frame s
  rw [enterStandby_eq, judgeAll_groups, judgeAll_fans]
  have rested : Resting (standbyRecords (standbyBefore s)) := Resting.of_entry (t := { standbyBefore s with
    channels := restartedChannels (standbyBefore s).tables }) mode (standbyBefore s).groups (standbyBefore s).fans
  have recomputed := forEachGroup_induction (gs := List.finRange 4) (f := recomputeRunSet) (s := standbyRecords (standbyBefore s))
    (P := fun t => Resting t ∧ ∀ f : Fin 8, t.fans[f] = standbyFan s.fans[f])
    ⟨rested, fun f => by unfold standbyRecords; simp only [Fin.getElem_fin, Vector.getElem_ofFn, fans]⟩
    (fun _ _ h => ⟨h.1.same rfl rfl rfl rfl, h.2⟩)
    fun g _ t h => ⟨h.1.recomputeRunSet g, fun f => by rw [(recomputeRunSet_fans g t).1 f, h.1.moved]; exact h.2 f⟩
  refine ⟨fun g => ?_, recomputed.2⟩
  have entered : (standbyRecords (standbyBefore s)).groups[g] = standbyGroup s.groups[g] := by
    unfold standbyRecords; simp only [Fin.getElem_fin, Vector.getElem_ofFn, groups]
  rw [← entered]
  exact forEachGroup_setChanged _ _ g

theorem segmentPosts_idle {new : Segment} (differs : new ≠ .idle) :
    segmentPosts .idle new = true ∧ segmentPosts new .idle = true := by
  cases new with
  | idle => exact absurd rfl differs
  | waiting => decide
  | polling => decide
  | transit => decide
  | faulted => decide
  | released => decide

theorem standbyPort_posted {s : State} (other : s.segment ≠ .idle) :
    Posted s (standbyPort s) .segmentState 0 (detailOf Segment.idle.code s.segment.code) := by
  have left := changeSegment_posted (new := .idle) (s := { s with
    transaction := none, timerOn := false, deferredTick := false, countdown := 0, contention := 0, work := []
    pollList := s.pollList.map standbyNode, transits := s.transits.map cancelEntry }) (segmentPosts_idle other).2
  exact left.congr rfl rfl rfl

theorem enterStandby_posted (s : State) :
    Posted s (enterStandby s) .modeChange 0 (detailOf Mode.standby.code s.mode.code) ∧
      (s.segment ≠ .idle → Posted s (enterStandby s) .segmentState 0 (detailOf Segment.idle.code s.segment.code)) := by
  obtain ⟨m, is⟩ : ∃ m, m = changeMode .standby { s with warmupLeft := 0 } := ⟨_, rfl⟩
  have changed : Posted s m .modeChange 0 (detailOf Mode.standby.code s.mode.code) := by
    rw [is]; exact posted_post .modeChange 0 _ _
  have counted : QueueGrows s { s with warmupLeft := 0 } := .of_same rfl rfl
  have before : QueueGrows s m := by rw [is]; exact counted.trans (changeMode_calm .standby _).grows
  have segment : m.segment = s.segment := by rw [is]; rfl
  have port : standbyBefore s = standbyPort m := by rw [is]; rfl
  have rest : QueueGrows (standbyPort m) (enterStandby s) := by
    have records : ∀ t : State, QueueGrows t (standbyRecords t) := fun t => by unfold standbyRecords; exact .of_same rfl rfl
    have records := records (standbyPort m)
    rw [enterStandby_eq, port]
    generalize standbyRecords (standbyPort m) = u at records ⊢
    exact (records.trans (forEachGroup_calm recomputeRunSet_calm u).grows).trans (judgeAll_calm _).grows
  refine ⟨(changed.then (standbyPort_calm m).grows).then rest, fun other => ?_⟩
  have left := standbyPort_posted (s := m) (by rw [segment]; exact other)
  rw [segment] at left
  exact (left.after before).then rest

/-- R177: every entry that is not done is CANCELLED at STANDBY entry. -/
theorem cancelEntry_eq (e : TransitEntry) :
    cancelEntry e = if e.state = .waiting ∨ e.state = .sent then { e with state := .done .cancelled } else e := by
  unfold cancelEntry
  cases is : e.state with
  | waiting => simp
  | sent => simp
  | done r => simp

/-- Settles O34: the entry changes the mode, idles the port, and rewrites the records, which the groups' recomputation then leaves. -/
theorem standbyEntryRestartsTheRecords : Obligations.StandbyEntryRestartsTheRecords := by
  intro s src listening
  refine ⟨fun idle => by rw [exec_standby_asked listening, if_pos idle], fun active => ?_⟩
  rw [exec_standby_asked listening, if_neg active]
  refine ⟨enterStandby s, ?_⟩
  obtain ⟨groups, fans⟩ := enterStandby_records s
  obtain ⟨mode, segment⟩ := enterStandby_posted s
  have stands := enterStandby_stands s
  have frame := enterStandby_frame s
  obtain ⟨t, is⟩ : ∃ t, t = enterStandby s := ⟨_, rfl⟩
  rw [← is] at groups fans mode segment stands frame ⊢
  obtain ⟨resting, port, outputs⟩ := stands
  refine ⟨rfl, resting.mode, port.warmupLeft, mode, segment, port.segment, port.transaction, port.timerOn, port.deferredTick,
    by rw [frame], by rw [frame], port.work, by rw [frame]; rfl, ?_, fun i => ?_, resting.zones, fun g => ?_, fun f => ?_, outputs,
    by rw [frame], by rw [frame], by rw [frame], by rw [frame], by rw [frame], by rw [frame], by rw [frame], by rw [frame],
    by rw [frame], by rw [frame]⟩
  · rw [frame]
    exact List.map_congr_left fun e _ => cancelEntry_eq e
  · rw [frame]; unfold restartedChannels
    simp only [Fin.getElem_fin, Vector.getElem_ofFn]
  · rw [groups g]; exact ⟨rfl, rfl, rfl, rfl, rfl, rfl, rfl⟩
  · rw [fans f]; exact ⟨rfl, rfl, rfl, rfl, rfl⟩

/-! ## The apply point of a RUN request (R185) -/

/-- In STANDBY a record changes no stage, no stack and no fan that runs. -/
structure RestsFrom (s t : State) : Prop where
  resting : Resting t
  groups : ∀ g : Fin 4, SetChanged s.groups[g] t.groups[g]

theorem RestsFrom.same {s t u : State} (h : RestsFrom s t) (mode : u.mode = t.mode) (zones : u.zones = t.zones)
    (groups : u.groups = t.groups) (fans : u.fans = t.fans) : RestsFrom s u :=
  ⟨h.resting.same mode zones groups fans, by rw [groups]; exact h.groups⟩

theorem RestsFrom.recomputeRunSet {s t : State} (h : RestsFrom s t) (g : Fin 4) : RestsFrom s (recomputeRunSet g t) :=
  ⟨h.resting.recomputeRunSet g, fun k => (h.groups k).trans (recomputeRunSet_setChanged g t k)⟩

theorem RestsFrom.applyFan {s t : State} (h : RestsFrom s t) (f : Fin 8) (e : FanEntry) : RestsFrom s (applyFan f e t) := by
  have cleared : ∀ ts : Tables, RestsFrom s (changeFan f FanRecord.cleared { t with tables := ts }) := fun ts => by
    have frame := changeFan_fanFrame f FanRecord.cleared { t with tables := ts }
    refine ⟨⟨by rw [frame]; exact h.resting.mode, by rw [frame]; exact h.resting.zones, by rw [frame]; exact h.resting.groups,
      fun k => ?_⟩, by rw [frame]; exact h.groups⟩
    rw [changeFan_fans]; split
    · exact .inl rfl
    · exact h.resting.fans k
  have joined : ∀ u, RestsFrom s u → joinHandOver f e u = u := fun u rests => by
    unfold joinHandOver
    rw [(rests.resting.groups e.group).2.2.2.2, Bool.and_false]; rfl
  unfold Machine.applyFan; dsimp only
  split
  · exact h
  · rw [joined _ (cleared _)]
    split
    · exact (cleared _).recomputeRunSet _
    · exact ((cleared _).recomputeRunSet _).recomputeRunSet _

theorem RestsFrom.applyChange {s t : State} (h : RestsFrom s t) (c : Change) : RestsFrom s (applyChange c t) := by
  cases c with
  | binding i e =>
    show RestsFrom s (applyBinding i e t)
    unfold applyBinding; dsimp only
    cases noticeOf (classify t.tables.bindings[i] e) <;> exact h.same rfl rfl rfl rfl
  | zone z e =>
    show RestsFrom s (applyZone z e t)
    unfold applyZone; dsimp only
    split
    · exact h
    · rw [if_pos (.inl h.resting.mode)]; exact h.same rfl rfl rfl rfl
  | group g e =>
    show RestsFrom s (applyGroup g e t)
    unfold applyGroup; dsimp only
    split
    · exact h
    · rw [if_pos h.resting.mode]; exact h.same rfl rfl rfl rfl
  | fan f e => exact h.applyFan f e
  | device e => exact h.same rfl rfl rfl rfl

theorem RestsFrom.applyPoint {s : State} (rests : Resting s) : RestsFrom s (applyPoint s) := by
  have start : RestsFrom s s := ⟨rests, fun _ => rfl⟩
  rcases applyPoint_cases s with eq | ⟨-, -, -, eq⟩
  · rw [eq]; exact start
  · have recorded : RestsFrom s (applyRecords s.changes s).1 :=
      applyRecords_induction (P := RestsFrom s) (fun c t _ h => (h.applyChange c).same rfl rfl rfl rfl)
        (fun _ _ _ _ h => h.same rfl rfl rfl rfl) s.changes s start
    have closed : ∀ n t, RestsFrom s t → RestsFrom s (closeTables n t) := fun n t h => by
      unfold closeTables; dsimp only; split
      · exact h
      · have regrouped : RestsFrom s (forEachGroup (List.finRange 4) Machine.recomputeRunSet t) :=
          forEachGroup_induction (P := RestsFrom s) h (fun _ _ k => k.same rfl rfl rfl rfl) fun g _ _ k => k.recomputeRunSet g
        exact regrouped.same rfl rfl rfl rfl
    rw [eq]; unfold application; dsimp only
    exact (closed (applyRecords s.changes s).2.1 _ recorded).same rfl rfl rfl rfl

/-- R163: a DEVICE record that ends a list taken in STANDBY is the DEVICE entry. -/
theorem applyPoint_lastDevice {s : State} (idle : s.mode = .standby) (off : s.hold = false) (free : s.save = none) {cs : List Change}
    {d : DeviceEntry} (list : s.changes = cs ++ [.device d]) : (applyPoint s).tables.device = d ∧ (applyPoint s).changes = [] := by
  have last : ∀ (cs : List Change) (t : State), t.mode = .standby → (applyRecords (cs ++ [.device d]) t).1.tables.device = d := by
    intro cs
    induction cs with
    | nil =>
      intro t mode
      have accepted : changeRejects t (.device d) = none := if_pos mode
      show (applyRecords [.device d] t).1.tables.device = d
      unfold applyRecords; rw [accepted]; rfl
    | cons c cs ih =>
      intro t mode
      rw [List.cons_append]
      unfold applyRecords
      split
      · refine ih _ ?_
        have kept : (applyChange c t).mode = t.mode := (applyChange_applyFrame c t).mode
        exact kept.trans mode
      · exact ih _ mode
  have open_ : applyPoint s = application s := if_pos ⟨by rw [off]; rfl, free, by rw [list]; simp⟩
  rw [open_]
  refine ⟨?_, rfl⟩
  rw [application_tables, list]
  exact last cs s idle

/-! ## WARMUP entry (R185) -/

theorem warmupSegment_segment (s : State) :
    (warmupSegment s).segment = if s.tables.device.releaseEnable && s.releaseLine then .released else .waiting := by
  unfold warmupSegment
  split
  · exact changeSegment_segment .released s
  · exact changeSegment_segment .waiting s

theorem warmupSegment_posted {s : State} (idle : s.segment = .idle) :
    Posted s (warmupSegment s) .segmentState 0 (detailOf (warmupSegment s).segment.code Segment.idle.code) ∧
      ((warmupSegment s).segment = .released → Posted s (warmupSegment s) .serviceRelease 0 (detailOf 0 1)) := by
  have changed : ∀ new : Segment, new ≠ .idle → Posted s (changeSegment new s) .segmentState 0 (detailOf new.code Segment.idle.code) :=
    fun new other => by
      have posted := changeSegment_posted (new := new) (s := s) (by rw [idle]; exact (segmentPosts_idle other).1)
      rw [idle] at posted; exact posted
  rw [warmupSegment_segment]
  unfold warmupSegment
  split
  · exact ⟨(changed .released nofun).then (post_grows _ _ _ _), fun _ => (posted_post _ _ _ _).after (changeSegment_calm .released s).grows⟩
  · exact ⟨changed .waiting nofun, nofun⟩

/-- R65, R76: no zone shows a condition as WARMUP begins. -/
theorem warmup_stages {w : State} (mode : w.mode = .warmup)
    (zones : ∀ z : Fin 16, w.zones[z] = ZoneRecord.cleared (if w.tables.zones[z].enabled then .normal else .inactive)) (g : Fin 4) :
    demandOf w g = max w.tables.groups[g].stageMap.base w.tables.groups[g].stageMap.warmup ∧ floorOf w g = 0 := by
  have active : w.mode ≠ .standby := by rw [mode]; nofun
  have none_ : calledStages w g = [] := by
    unfold calledStages
    refine List.flatMap_eq_nil_iff.mpr fun z mem => ?_
    rw [zones z, (mem_memberZones.mp mem).1]; rfl
  rw [demandOf_eq w g active, floorOf_eq w g active, none_, if_pos mode]
  simp [largest]

/-- R93, R106, R114: as WARMUP begins only a hand-over moves fans. -/
theorem regroup_fans {w : State} (resting : ∀ f : Fin 8, w.fans[f].state = .off ∨ w.fans[f].state = .failed)
    (groups : ∀ g : Fin 4, w.groups[g].commanded = 0 ∧ w.groups[g].handOver = false ∧ floorOf w g = 0) (f : Fin 8) :
    (regroup w).fans[f].state =
      if (regroup w).groups[w.tables.fans[f].group].handOver = true ∧ w.tables.fans[f].enabled = true then .manual
      else w.fans[f].state := by
  have staged := forEachGroup_restaged (List.nodup_finRange 4) w
  have kept := forEachGroup_setChanged (List.finRange 4) (forEachGroup (List.finRange 4) restage w)
  obtain ⟨y, is⟩ : ∃ y, y = forEachGroup (List.finRange 4) restage w := ⟨_, rfl⟩
  rw [← is] at staged kept
  have regrouped : regroup w = forEachGroup (List.finRange 4) recomputeRunSet y := by rw [is]; rfl
  have handed : ∀ f : Fin 8, y.fans[f].state =
      if y.groups[w.tables.fans[f].group].handOver = true ∧ w.tables.fans[f].enabled = true then .manual else w.fans[f].state :=
    fun f => by
      obtain ⟨-, clear, -⟩ := groups w.tables.fans[f].group
      have other : w.fans[f].state ≠ .manual := by rcases resting f with h | h <;> rw [h] <;> nofun
      rw [staged.fans, if_pos (List.mem_finRange _), handedFan_own rfl, clear]
      by_cases joins : y.groups[w.tables.fans[f].group].handOver = true ∧ w.tables.fans[f].enabled = true
      · rw [if_pos ⟨joins.1, rfl, joins.2, other⟩, if_pos joins]; rfl
      · rw [if_neg fun h => joins ⟨h.1, h.2.2.1⟩, if_neg joins, if_neg (by rintro ⟨-, h, -⟩; cases h)]
  have still : ∀ f : Fin 8, y.fans[f].state ≠ .starting ∧ y.fans[f].state ≠ .running := fun f => by
    rw [handed f]
    split
    · exact ⟨nofun, nofun⟩
    · rcases resting f with h | h <;> rw [h] <;> exact ⟨nofun, nofun⟩
  have zero : ∀ g : Fin 4, y.groups[g].commanded = 0 := fun g => by
    obtain ⟨commanded, -, floor⟩ := groups g
    rw [staged.groups, if_pos (List.mem_finRange _), restagedGroup_eq, floor, commanded]
    exact if_neg fun h => absurd h.2 (Nat.lt_irrefl 0)
  have unmoved := forEachGroup_induction (gs := List.finRange 4) (f := recomputeRunSet) (s := y)
    (P := fun t => (∀ g : Fin 4, t.groups[g].commanded = 0) ∧ ∀ f : Fin 8, t.fans[f] = y.fans[f]) ⟨zero, fun _ => rfl⟩
    (fun _ _ h => h) fun g _ t h => ⟨fun k => by rw [recomputeRunSet_setChanged g t k]; exact h.1 k, fun f => by
      rw [(recomputeRunSet_fans g t).1 f]
      unfold movedFan
      rw [if_neg, if_neg]
      · exact h.2 f
      · rintro ⟨-, -, -, -, above⟩; rw [h.1] at above; exact absurd above (Nat.lt_irrefl 0)
      · rintro ⟨-, -, runs⟩
        rw [h.2] at runs
        exact runs.elim (still f).1 (still f).2⟩
  have flag : (regroup w).groups[w.tables.fans[f].group].handOver = y.groups[w.tables.fans[f].group].handOver := by
    rw [regrouped, kept]
  rw [flag, regrouped, unmoved.2 f]
  exact handed f

/-- R127: outside RUN with every zone cleared the outputs are off. -/
theorem judgeAll_warmup {v : State} (mode : v.mode = .warmup) (zones : ∀ z : Fin 16, ∃ gas, v.zones[z] = ZoneRecord.cleared gas ∧ gas ≠ .alarm) :
    (judgeAll v).outputs = Outputs.off := by
  have off : v.mode ≠ .run := by rw [mode]; nofun
  obtain ⟨charge, -, healthy⟩ := functions_outside_run off
  have beacon : beaconFunction v = false := by
    rw [← Bool.not_eq_true, beaconFunction_iff]
    rintro ⟨z, sounds⟩
    obtain ⟨gas, is, quiet⟩ := zones z
    rw [is] at sounds
    rcases sounds with ⟨alarm, -⟩ | ⟨wet | latched, -⟩
    · exact quiet alarm
    · cases wet
    · cases latched
  unfold judgeAll; rw [charge, ventLevel_outside_run off, beacon, healthy]; rfl

/-- R185: the mode changed and the zones at their entry values, with the groups still to follow. -/
def warmupBefore (a : State) : State := warmupZones (changeMode .warmup { a with warmupLeft := a.tables.device.warmupCount })

theorem warmupBefore_frame (a : State) :
    warmupBefore a = { a with
      mode := .warmup, warmupLeft := a.tables.device.warmupCount, zones := (warmupBefore a).zones
      events := (warmupBefore a).events, lost := (warmupBefore a).lost } ∧
    (∀ z : Fin 16, (warmupBefore a).zones[z] = ZoneRecord.cleared (if a.tables.zones[z].enabled then .normal else .inactive)) ∧
    QueueGrows a (warmupBefore a) ∧ Posted a (warmupBefore a) .modeChange 0 (detailOf Mode.warmup.code a.mode.code) := by
  have counted : QueueGrows a { a with warmupLeft := a.tables.device.warmupCount } := .of_same rfl rfl
  have cleared : ∀ t : State, QueueGrows t (warmupZones t) := fun t => by unfold warmupZones; exact .of_same rfl rfl
  have posted : Posted a (changeMode .warmup { a with warmupLeft := a.tables.device.warmupCount }) .modeChange 0
      (detailOf Mode.warmup.code a.mode.code) := posted_post .modeChange 0 _ _
  refine ⟨rfl, fun z => ?_, (counted.trans (changeMode_calm .warmup _).grows).trans (cleared _), posted.then (cleared _)⟩
  unfold warmupBefore warmupZones
  simp only [Fin.getElem_fin, Vector.getElem_ofFn]; rfl

/-- R185: the state a RUN request leaves, from what its apply point has left. -/
def warmupEntered (a : State) : State := judgeAll { warmupSegment (regroup (warmupBefore a)) with timerOn := true }

theorem enterWarmup_eq (s : State) : enterWarmup s = warmupEntered (applyPoint s) := rfl

/-- What lies between the groups' recomputation and the end of the entry. -/
theorem warmupEntered_after (a : State) :
    (warmupEntered a).groups = (regroup (warmupBefore a)).groups ∧ (warmupEntered a).fans = (regroup (warmupBefore a)).fans ∧
      (warmupEntered a).segment = (warmupSegment (regroup (warmupBefore a))).segment ∧
      QueueGrows (warmupSegment (regroup (warmupBefore a))) (warmupEntered a) := by
  unfold warmupEntered
  generalize regroup (warmupBefore a) = x
  have frame := warmupSegment_frame x
  generalize warmupSegment x = y at frame ⊢
  exact ⟨by rw [judgeAll_groups, frame], by rw [judgeAll_fans, frame], rfl, .of_same rfl rfl⟩

section
variable {a : State} (resting : Resting a)
include resting

/-- R83 to R85, R93: the groups' records as WARMUP begins. -/
theorem warmupEntered_groups (g : Fin 4) :
    let r := (warmupEntered a).groups[g]
    r.demand = max a.tables.groups[g].stageMap.base a.tables.groups[g].stageMap.warmup ∧ r.floor = 0 ∧ r.commanded = 0 ∧
      r.runOn = a.groups[g].runOn ∧ r.stack = a.groups[g].stack ∧ r.effective = effectiveOf .warmup r ∧
      (r.handOver = true ↔ ∃ c cs, a.groups[g].stack = c :: cs ∧ c.kind = .manual) := by
  obtain ⟨groups, -, -, -⟩ := warmupEntered_after a
  obtain ⟨frame, zones, -, -⟩ := warmupBefore_frame a
  have wGroups : (warmupBefore a).groups = a.groups := by rw [frame]
  have wTables : (warmupBefore a).tables = a.tables := by rw [frame]
  have mode : (warmupBefore a).mode = .warmup := by rw [frame]
  obtain ⟨demand, floor⟩ := warmup_stages mode (by rw [wTables]; exact zones) g
  obtain ⟨-, -, -, commanded, -⟩ := resting.groups g
  have low : ¬ ((warmupBefore a).mode ≠ .standby ∧ (warmupBefore a).groups[g].commanded < floorOf (warmupBefore a) g) := fun h => by
    rw [floor] at h; exact absurd h.2 (Nat.not_lt_zero _)
  have staged := restagedGroup_eq (warmupBefore a) g
  have flag : (restagedGroup (warmupBefore a) g).handOver = true ↔ HandOverHolds .warmup (restaged (warmupBefore a) g) := by
    rw [← mode]; exact handOverDue_iff _ _
  have stack : (restagedGroup (warmupBefore a) g).stack = a.groups[g].stack := by rw [staged, wGroups]
  have record : (regroup (warmupBefore a)).groups[g] = _ := regroup_record (warmupBefore a) g
  have floor_ : (restagedGroup (warmupBefore a) g).floor = 0 := (congrArg GroupRecord.floor staged).trans floor
  intro r
  have is : r = (regroup (warmupBefore a)).groups[g] := by simp only [r, groups]
  have effective : effectiveOf .warmup r = effectiveOf .warmup (restagedGroup (warmupBefore a) g) :=
    effectiveOf_congr (by rw [is, record]) (by rw [is, record]) (by rw [is, record])
  rw [effective, is]
  refine ⟨?_, ?_, ?_, ?_, ?_, ?_, ?_⟩
  · rw [← wTables, ← demand]
    exact (congrArg GroupRecord.demand record).trans (congrArg GroupRecord.demand staged)
  · exact (congrArg GroupRecord.floor record).trans floor_
  · refine (congrArg GroupRecord.commanded record).trans ((congrArg GroupRecord.commanded staged).trans ?_)
    rw [← commanded, ← wGroups]; exact if_neg low
  · refine (congrArg GroupRecord.runOn record).trans ((congrArg GroupRecord.runOn staged).trans ?_)
    rw [← wGroups]; exact if_neg low
  · exact (congrArg GroupRecord.stack record).trans stack
  · refine (congrArg GroupRecord.effective record).trans ((congrArg GroupRecord.effective staged).trans ?_)
    rw [mode]
  · rw [congrArg GroupRecord.handOver record]
    refine flag.trans ?_
    unfold HandOverHolds
    rw [show (restaged (warmupBefore a) g).stack = a.groups[g].stack from stack, show (restaged (warmupBefore a) g).floor = 0 from floor_]
    exact ⟨fun h => h.2.1, fun h => ⟨nofun, h, rfl⟩⟩

theorem warmupEntered_fans (f : Fin 8) :
    (warmupEntered a).fans[f].state =
      if (warmupEntered a).groups[a.tables.fans[f].group].handOver = true ∧ a.tables.fans[f].enabled = true then .manual
      else a.fans[f].state := by
  obtain ⟨groups, fans, -, -⟩ := warmupEntered_after a
  obtain ⟨frame, zones, -, -⟩ := warmupBefore_frame a
  have wGroups : (warmupBefore a).groups = a.groups := by rw [frame]
  have wTables : (warmupBefore a).tables = a.tables := by rw [frame]
  have wFans : (warmupBefore a).fans = a.fans := by rw [frame]
  have mode : (warmupBefore a).mode = .warmup := by rw [frame]
  have own := regroup_fans (w := warmupBefore a) (by rw [wFans]; exact resting.fans) (fun g => by
    obtain ⟨-, -, -, commanded, clear⟩ := resting.groups g
    rw [wGroups]; exact ⟨commanded, clear, (warmup_stages mode (by rw [wTables]; exact zones) g).2⟩) f
  simp only [wTables, wFans] at own
  rw [groups, fans]; exact own

/-- R185: the events of the entry. -/
theorem warmupEntered_posted (idle : a.segment = .idle) :
    Posted a (warmupEntered a) .modeChange 0 (detailOf Mode.warmup.code Mode.standby.code) ∧
    Posted a (warmupEntered a) .segmentState 0 (detailOf (warmupEntered a).segment.code Segment.idle.code) ∧
    ((warmupEntered a).segment = .released → Posted a (warmupEntered a) .serviceRelease 0 (detailOf 0 1)) := by
  obtain ⟨-, -, segment, last⟩ := warmupEntered_after a
  obtain ⟨frame, -, grows, changed⟩ := warmupBefore_frame a
  have regrew : QueueGrows (warmupBefore a) (regroup (warmupBefore a)) := (regroup_calm _).grows
  have xSegment : (regroup (warmupBefore a)).segment = .idle := by rw [regroup_groupFrame (warmupBefore a), frame]; exact idle
  obtain ⟨posted, released⟩ := warmupSegment_posted xSegment
  have ported := (warmupSegment_calm (regroup (warmupBefore a))).grows
  rw [resting.mode] at changed
  rw [segment]
  exact ⟨((changed.then regrew).then ported).then last, (posted.after (grows.trans regrew)).then last,
    fun is => ((released is).after (grows.trans regrew)).then last⟩

end

theorem warmupEntered_frame (a : State) :
    warmupEntered a = { a with
      mode := .warmup, warmupLeft := a.tables.device.warmupCount, timerOn := true, zones := (warmupBefore a).zones
      segment := if a.tables.device.releaseEnable && a.releaseLine then .released else .waiting
      groups := (warmupEntered a).groups, fans := (warmupEntered a).fans, draws := (warmupEntered a).draws
      events := (warmupEntered a).events, lost := (warmupEntered a).lost, outputs := Outputs.off } := by
  obtain ⟨frame, zones, -, -⟩ := warmupBefore_frame a
  have regrouped := regroup_groupFrame (warmupBefore a)
  have segment := warmupSegment_segment (regroup (warmupBefore a))
  have ported := warmupSegment_frame (regroup (warmupBefore a))
  have off := judgeAll_warmup (v := { warmupSegment (regroup (warmupBefore a)) with timerOn := true })
    (by show (warmupSegment _).mode = _; rw [ported, regrouped, frame]) fun z => by
      refine ⟨if a.tables.zones[z].enabled then .normal else .inactive, ?_, by split <;> nofun⟩
      show (warmupSegment (regroup (warmupBefore a))).zones[z] = _
      rw [← zones z, show (warmupSegment (regroup (warmupBefore a))).zones = (warmupBefore a).zones by rw [ported, regrouped]]
  have entered : warmupEntered a =
      { warmupSegment (regroup (warmupBefore a)) with timerOn := true, outputs := Outputs.off } := by
    have judged : ∀ v : State, judgeAll v = { v with outputs := (judgeAll v).outputs } := fun _ => rfl
    unfold warmupEntered; rw [judged, off]
  have changed : (warmupSegment (regroup (warmupBefore a))).segment =
      if a.tables.device.releaseEnable && a.releaseLine then .released else .waiting := by
    rw [segment, regrouped, frame]
  rw [← changed]
  generalize warmupEntered a = e at entered ⊢
  generalize warmupSegment (regroup (warmupBefore a)) = y at ported entered ⊢
  generalize regroup (warmupBefore a) = x at regrouped ported
  generalize warmupBefore a = w at frame regrouped ⊢
  rw [entered, ported, regrouped, frame]

/-- Settles O33: the apply point leaves the part at rest, so that only the entry's own rules set stages, hand-over and fans. -/
theorem runEntersWarmup : Obligations.RunEntersWarmup := by
  intro s src listening
  refine ⟨fun active => by rw [exec_run_asked listening, if_neg active], fun idle law => ?_⟩
  rw [exec_run_asked listening, if_pos idle, enterWarmup_eq]
  intro a
  refine ⟨warmupEntered a, rfl, ?_⟩
  have stands := StandbyLaw.stands law idle
  have rests : RestsFrom s a := RestsFrom.applyPoint stands.resting
  have applied : ApplyFrame s a := applyPoint_applyFrame s
  have device : ∀ cs d, s.hold = false → s.save = none → s.changes = cs ++ [.device d] → a.tables.device = d ∧ a.changes = [] :=
    fun cs d off free list => applyPoint_lastDevice idle off free list
  have line : a.releaseLine = s.releaseLine := by rw [applied]
  obtain ⟨-, zones, -, -⟩ := warmupBefore_frame a
  obtain ⟨mode, segment, released⟩ := warmupEntered_posted rests.resting (by rw [applied]; exact stands.port.segment)
  have groups := warmupEntered_groups rests.resting
  have fans := warmupEntered_fans rests.resting
  have frame := warmupEntered_frame a
  generalize warmupEntered a = t at *
  refine ⟨by rw [frame], by rw [frame], by rw [frame], by rw [frame, ← line], mode, segment, released, ?_, fun g => ?_, fans,
    by rw [frame], by rw [frame], by rw [frame], by rw [frame], by rw [frame], ?_, ?_, by rw [frame], fun cs d off free list => ?_⟩
  · rw [frame]; exact zones
  · obtain ⟨demand, floor, commanded, runOn, stack, effective, flag⟩ := groups g
    have kept := rests.groups g
    have sameStack : a.groups[g].stack = s.groups[g].stack := by rw [kept]
    have sameRunOn : a.groups[g].runOn = s.groups[g].runOn := by rw [kept]
    rw [← sameStack, ← sameRunOn]
    exact ⟨demand, floor, commanded, runOn, stack, effective, flag⟩
  · rw [frame, applied]
  · rw [frame, applied]
  · obtain ⟨entry, empty⟩ := device cs d off free list
    refine ⟨?_, ?_, ?_⟩
    · rw [frame]; exact entry
    · rw [frame]; exact congrArg DeviceEntry.warmupCount entry
    · rw [frame]; exact empty

end Sys2Proof.Machine
end

section
/-! PROOFS. The tables a device reset loads, and what they make of the records (O7). -/

namespace Sys2Proof.Machine

/-! ## The image decodes to its tables (R190) -/

theorem pieces_append {k : Nat} {es : List (List Byte)} (sized : ∀ e ∈ es, e.length = k) (rest : List Byte) :
    pieces k es.length (es.flatten ++ rest) = es := by
  induction es with
  | nil => rfl
  | cons e es ih =>
    obtain ⟨first, others⟩ := List.forall_mem_cons.mp sized
    show ((e ++ es.flatten) ++ rest).take k :: pieces k es.length (((e ++ es.flatten) ++ rest).drop k) = _
    rw [List.append_assoc, List.take_left' first, List.drop_left' first, ih others]

theorem decodeAll_map {α : Type} {enc : α → List Byte} {dec : List Byte → Option α} {xs : List α}
    (decodes : ∀ x ∈ xs, dec (enc x) = some x) : decodeAll dec (xs.map enc) = some xs := by
  induction xs with
  | nil => rfl
  | cons x xs ih =>
    obtain ⟨first, rest⟩ := List.forall_mem_cons.mp decodes
    rw [List.map_cons]
    unfold decodeAll
    rw [first, ih rest]

theorem vectorOf_toList {α : Type} {n : Nat} (v : Vector α n) : vectorOf n v.toList = some v := by
  unfold vectorOf
  rw [dif_pos v.length_toList]
  rfl

/-- One table's section of an image, with the sections after it. -/
theorem decodeSection_encode {α : Type} {n k : Nat} {enc : α → List Byte} {dec : List Byte → Option α} (sized : ∀ x, (enc x).length = k)
    {v : Vector α n} (decodes : ∀ i : Fin n, dec (enc v[i]) = some v[i]) (rest : List Byte) :
    decodeSection n k dec (v.toList.flatMap enc ++ rest) = some v ∧ (v.toList.flatMap enc ++ rest).drop (n * k) = rest := by
  have each : ∀ e ∈ v.toList.map enc, e.length = k := fun e mem => by
    obtain ⟨x, -, rfl⟩ := List.mem_map.mp mem; exact sized x
  have count : (v.toList.map enc).length = n := by rw [List.length_map, Vector.length_toList]
  refine ⟨?_, List.drop_left' ?_⟩
  · unfold decodeSection
    have cut := pieces_append each rest
    rw [count] at cut
    rw [List.flatMap_def, cut, decodeAll_map fun x mem => ?_]
    · exact vectorOf_toList v
    · obtain ⟨i, hi, is⟩ := Vector.mem_iff_getElem.mp (Vector.mem_toList_iff.mp mem)
      rw [← is]; exact decodes ⟨i, hi⟩
  · rw [List.flatMap_def, flatten_length each, count]

theorem decodeTables_encode {ts : Tables} (range : ts.InRange) : decodeTables (encodeTables ts) = some ts := by
  obtain ⟨bindings, zones, groups, fans, device⟩ := range
  have image : encodeTables ts = ts.bindings.toList.flatMap encodeBinding ++ (ts.zones.toList.flatMap encodeZone ++
      (ts.groups.toList.flatMap encodeGroup ++ (ts.fans.toList.flatMap encodeFan ++ encodeDevice ts.device))) := by
    unfold encodeTables; simp only [List.append_assoc]
  obtain ⟨b, b'⟩ := decodeSection_encode (enc := encodeBinding) (k := 11) (fun x => by rw [encodeBinding_eq]; rfl)
    (fun i => decodeBinding_encode (bindings i)) (ts.zones.toList.flatMap encodeZone ++
      (ts.groups.toList.flatMap encodeGroup ++ (ts.fans.toList.flatMap encodeFan ++ encodeDevice ts.device)))
  obtain ⟨z, z'⟩ := decodeSection_encode (enc := encodeZone) (k := 13) (fun x => by rw [encodeZone_eq]; rfl)
    (fun i => decodeZone_encode (zones i))
    (ts.groups.toList.flatMap encodeGroup ++ (ts.fans.toList.flatMap encodeFan ++ encodeDevice ts.device))
  obtain ⟨g, g'⟩ := decodeSection_encode (enc := encodeGroup) (k := 13) (fun x => by rw [encodeGroup_eq]; rfl)
    (fun i => decodeGroup_encode (groups i)) (ts.fans.toList.flatMap encodeFan ++ encodeDevice ts.device)
  obtain ⟨f, f'⟩ := decodeSection_encode (enc := encodeFan) (k := 6) (fun x => by rw [encodeFan_eq]; rfl)
    (fun i => decodeFan_encode (fans i)) (encodeDevice ts.device)
  have toZones : (encodeTables ts).drop 704 = ts.zones.toList.flatMap encodeZone ++
      (ts.groups.toList.flatMap encodeGroup ++ (ts.fans.toList.flatMap encodeFan ++ encodeDevice ts.device)) := by
    rw [image]; exact b'
  have toGroups : (encodeTables ts).drop 912 =
      ts.groups.toList.flatMap encodeGroup ++ (ts.fans.toList.flatMap encodeFan ++ encodeDevice ts.device) := by
    rw [show 912 = 704 + 208 from rfl, ← List.drop_drop, toZones]; exact z'
  have toFans : (encodeTables ts).drop 964 = ts.fans.toList.flatMap encodeFan ++ encodeDevice ts.device := by
    rw [show 964 = 912 + 52 from rfl, ← List.drop_drop, toGroups]; exact g'
  have toDevice : (encodeTables ts).drop 1012 = encodeDevice ts.device := by
    rw [show 1012 = 964 + 48 from rfl, ← List.drop_drop, toFans]; exact f'
  unfold decodeTables
  rw [toZones, toGroups, toFans, toDevice, image, b, z, g, f, decodeDevice_encode device]

/-! ## What the loaded tables make of the records -/

/-- R131: the mask of an address holds the point numbers bound to it. -/
theorem pointMask_getLsbD (ts : Tables) (a : Nat) (p : Fin 8) :
    (pointMask ts a).getLsbD p.val = true ↔
      ∃ i : Fin 64, ts.bindings[i].valid = true ∧ ts.bindings[i].node = a ∧ ts.bindings[i].point = p := by
  have fold : ∀ is : List (Fin 64),
      (is.foldr (fun i m => m ||| BitVec.twoPow 8 ts.bindings[i].point.val) 0).getLsbD p.val = true ↔
        ∃ i ∈ is, ts.bindings[i].point = p := by
    intro is
    induction is with
    | nil => simp
    | cons i is ih =>
      have bit : (BitVec.twoPow 8 ts.bindings[i].point.val).getLsbD p.val = true ↔ ts.bindings[i].point = p := by
        have below := p.isLt
        rw [BitVec.getLsbD_twoPow, Fin.ext_iff]; simp
      rw [List.foldr_cons, BitVec.getLsbD_or, Bool.or_eq_true, ih, bit]
      simp only [List.mem_cons, exists_eq_or_imp]
      exact or_comm
  unfold pointMask
  rw [fold]
  simp only [List.mem_filter, List.mem_finRange, true_and, Bool.and_eq_true, beq_iff_eq, and_assoc]

theorem driveFan_spelled (ts : Tables) (a : Nat) :
    (driveFan ts a = none ↔ ∀ f : Fin 8, ts.fans[f].enabled = true → ts.fans[f].driveNode ≠ a) ∧
      ∀ f, driveFan ts a = some f → ts.fans[f].enabled = true ∧ ts.fans[f].driveNode = a := by
  unfold driveFan
  refine ⟨?_, fun f found => by simpa using List.find?_some found⟩
  rw [List.find?_eq_none]; simp

theorem rebuiltList_fresh {ts : Tables} {e : PollEntry} (mem : e ∈ rebuiltList ts []) :
    e.state = .unknown ∧ e.miss = 0 ∧ e.errors = 0 ∧ e.mask = pointMask ts e.address ∧ e.fan = driveFan ts e.address := by
  obtain ⟨a, -, rfl⟩ := List.mem_map.mp mem
  exact ⟨rfl, rfl, rfl, rfl, rfl⟩

theorem restartedChannels_get (ts : Tables) (i : Fin 64) :
    (restartedChannels ts)[i] = ChannelRecord.restarted (if ts.bindings[i].valid then .unseen else .disabled) := by
  unfold restartedChannels; simp only [Fin.getElem_fin, Vector.getElem_ofFn]

theorem builtChains_spelled (bs : Vector Binding 64) (b : Fin 16) :
    (builtChains bs)[b] = (List.finRange 64).filter fun i =>
      bs[i].valid && decide ((bs[i].node + 7 * bs[i].point.val) % 16 = b.val) := by
  rw [builtChains_get]
  refine List.filter_congr fun i _ => ?_
  congr 1
  rw [Bool.eq_iff_iff, beq_iff_eq, decide_eq_true_eq]
  exact bindingBucket_eq_iff

/-- R105, R107: the run sets and conditions of tables just loaded, no fan having failed. -/
theorem computedRunSets_fresh {ts : Tables} (range : ts.InRange) (g : Fin 4) :
    let eligible : List (Fin 8) := (List.finRange 4).flatMap fun o => (List.finRange 8).filter fun f =>
      ts.fans[f].enabled && ts.fans[f].group == g && ts.fans[f].order == o
    (computedRunSets ts (Vector.replicate 8 FanRecord.cleared) (Vector.replicate 4 GroupRecord.cleared))[g] =
      { GroupRecord.cleared with
        runSet := eligible.take ts.groups[g].runCount
        condition := if eligible = [] then .disabled else if eligible.length < ts.groups[g].runCount then .degraded else .full } := by
  intro eligible
  have count : 1 ≤ ts.groups[g].runCount := by
    obtain ⟨-, -, groups, -, -⟩ := range
    have bounds := groups g
    simp only [GroupEntry.inRange, Bool.and_eq_true, decide_eq_true_eq] at bounds
    omega
  have selected : selectRunSet ts (Vector.replicate 8 FanRecord.cleared) g = eligible.take ts.groups[g].runCount := by
    refine (selectRunSet_spelled { State.reset with tables := ts, fans := Vector.replicate 8 FanRecord.cleared } g).trans ?_
    refine congrArg (List.take _) (List.flatMap_congr fun o _ => List.filter_congr fun f _ => ?_)
    simp only [Fin.getElem_fin, Vector.getElem_replicate]
    simp [FanRecord.cleared]
  have none_ : eligible = [] ↔ ∀ f : Fin 8, ts.fans[f].enabled = true → ts.fans[f].group ≠ g := by
    simp only [eligible, List.flatMap_eq_nil_iff, List.filter_eq_nil_iff, List.mem_finRange, Bool.and_eq_true, beq_iff_eq, true_implies]
    exact ⟨fun h f enabled own => h _ f ⟨⟨enabled, own⟩, rfl⟩, fun h o f ⟨⟨enabled, own⟩, _⟩ => h f enabled own⟩
  have condition : conditionOf ts g (eligible.take ts.groups[g].runCount).length =
      if eligible = [] then .disabled else if eligible.length < ts.groups[g].runCount then .degraded else .full := by
    rw [conditionOf_spelled]
    simp only [← none_]
    by_cases empty : eligible = []
    · rw [if_pos empty, if_pos empty]
    · have length : 0 < eligible.length := List.length_pos_iff.mpr empty
      rw [if_neg empty, if_neg empty, if_neg fun h => by
        have := congrArg List.length h
        rw [List.length_take, List.length_nil] at this; omega]
      rw [List.length_take]
      by_cases short : eligible.length < ts.groups[g].runCount
      · rw [if_pos short, if_pos (by omega)]
      · rw [if_neg short, if_neg (by omega)]
  have record : (computedRunSets ts (Vector.replicate 8 FanRecord.cleared) (Vector.replicate 4 GroupRecord.cleared))[g] =
      { GroupRecord.cleared with
        runSet := selectRunSet ts (Vector.replicate 8 FanRecord.cleared) g
        condition := conditionOf ts g (selectRunSet ts (Vector.replicate 8 FanRecord.cleared) g).length } := by
    unfold computedRunSets
    simp only [Fin.getElem_fin, Vector.getElem_ofFn, Vector.getElem_replicate]
  rw [record, selected, condition]

/-- Settles O7: the image decodes to its tables, and a restart reads the records off them. -/
theorem deviceResetLoadsTheStoredTables : Obligations.DeviceResetLoadsTheStoredTables := by
  intro s straps rate ts range image check
  have loaded : loadStore s.store = some ts := by
    unfold loadStore; rw [check]
    refine (if_pos rfl).trans ?_
    rw [image]; exact decodeTables_encode range
  let v : State := { readStraps straps rate s with tables := ts, chains := builtChains ts.bindings, storeValid := true }
  have loading : loadTables (readStraps straps rate s) = v := by
    unfold loadTables
    rw [show loadStore (readStraps straps rate s).store = some ts from loaded]
  have ends : exec (.deviceReset straps rate) s = .next (restartRuntime v) := by
    show Host.Outcome.next (restartRuntime (loadTables (readStraps straps rate s))) = _
    rw [loading]
  have restarted := restartRuntime_eq v
  have law := restartRuntime_pollLaw v
  have started : detailOf 0 v.storeValid.toNat = 1 := by show detailOf 0 1 = 1; decide
  rw [started] at restarted
  generalize restartRuntime v = t at restarted law ends
  refine ⟨t, ends, by rw [restarted]; rfl, ?_, ?_, ?_, law, fun e mem => ?_⟩
  · rw [restarted]; exact builtChains_spelled ts.bindings
  · rw [restarted]; exact restartedChannels_get ts
  · rw [restarted]; exact computedRunSets_fresh range
  rw [restarted] at mem
  obtain ⟨state, miss, errors, mask, fan⟩ := rebuiltList_fresh (ts := ts) mem
  rw [mask, fan]
  obtain ⟨none_, some_⟩ := driveFan_spelled ts e.address
  exact ⟨state, miss, errors, pointMask_getLsbD ts e.address, none_, some_⟩

end Sys2Proof.Machine
end

section
/-! PROOFS. The attention byte, bit by bit, and its place in every reply: O26. The line and the work of a completion leave the
trunk port; a request's reply is formed over the state its work leaves. -/

namespace Sys2Proof.Machine

/-! ## The bits -/

/-- A byte of five flags and a mode code shows each in its place. -/
theorem flags_bits : ∀ (b0 b1 b2 b3 h : Bool) (m : Mode),
    let byte := byteOf (b0.toNat + 2 * b1.toNat + 4 * b2.toNat + 8 * b3.toNat + 16 * h.toNat + 32 * m.code)
    byte.getLsbD 0 = b0 ∧ byte.getLsbD 1 = b1 ∧ byte.getLsbD 2 = b2 ∧ byte.getLsbD 3 = b3 ∧ byte.getLsbD 4 = h ∧
      (byte.extractLsb' 5 2).toNat = m.code ∧ byte.getLsbD 7 = false := by
  intro b0 b1 b2 b3 h m
  cases m <;> revert b0 b1 b2 b3 h <;> decide

theorem attention_bits (s : State) :
    (attention s).getLsbD 0 = beaconFunction s ∧ (attention s).getLsbD 1 = decide (s.events ≠ []) ∧
      (attention s).getLsbD 2 = decide (40 ≤ s.events.length) ∧ (attention s).getLsbD 3 = decide (s.changes ≠ []) ∧
      (attention s).getLsbD 4 = s.hold ∧ ((attention s).extractLsb' 5 2).toNat = s.mode.code ∧
      (attention s).getLsbD 7 = false :=
  flags_bits _ _ _ _ _ _

/-! ## What leaves the trunk port -/

/-- The trunk port stays as it is. -/
def PortKept (s t : State) : Prop := t.trunkPort = s.trunkPort

theorem PortKept.trans {s t u : State} (h : PortKept s t) (k : PortKept t u) : PortKept s u := Eq.trans k h

theorem GroupFrame.port {s t : State} (h : GroupFrame s t) : PortKept s t := by unfold PortKept; rw [h]
theorem ApplyFrame.port {s t : State} (h : ApplyFrame s t) : PortKept s t := by unfold PortKept; rw [h]
theorem WorkFrame.port {s t : State} (h : WorkFrame s t) : PortKept s t := by unfold PortKept; rw [h]
theorem NodeFrame.port {s t : State} (h : NodeFrame s t) : PortKept s t := by unfold PortKept; rw [h]
theorem SegmentFrame.port {s t : State} (h : SegmentFrame s t) : PortKept s t := by unfold PortKept; rw [h]

theorem surveyCompletion_port (empty : Bool) (s : State) : PortKept s (surveyCompletion empty s) :=
  PortKept.trans (t := { s with cycleCount := s.cycleCount + 1 }) rfl (surveyCompletion_workFrame empty s).port

theorem pollAfter_port (a : Nat) (s : State) : PortKept s (pollAfter a s) := by
  unfold pollAfter; split
  · rfl
  · exact PortKept.trans (t := { s with transaction := none }) rfl (surveyCompletion_port false _)

theorem startCycle_port (s : State) : PortKept s (startCycle s) :=
  PortKept.trans (t := { s with segment := .polling, deferredTick := false }) rfl
    ((applyPoint_applyFrame _).port.trans (pollAfter_port 0 _))

theorem emptyCycle_port (s : State) : PortKept s (emptyCycle s) :=
  (applyPoint_applyFrame s).port.trans (surveyCompletion_port true _)

theorem takeTick_port (s : State) : PortKept s (takeTick s) := by
  unfold takeTick; split
  · rfl
  · split
    · rfl
    · split
      · split
        · rfl
        · exact startCycle_port s
      · exact emptyCycle_port s
      · split
        · exact emptyCycle_port s
        · exact (changeSegment_frame .waiting s).port.trans (startCycle_port _)
      · exact startCycle_port s

theorem takeHeldTick_port (s : State) : PortKept s (takeHeldTick s) := by
  unfold takeHeldTick; split
  · exact PortKept.trans (t := { s with deferredTick := false }) rfl (takeTick_port _)
  · rfl

theorem pollFailed_port (t : Transaction) (a : Nat) (s : State) : PortKept s (pollFailed t a s) := by
  unfold pollFailed; split
  · rfl
  · exact (nodeOutcome_frame a false s).1.port.trans (pollAfter_port a _)

/-- An ended transit attempt and the dispatch that goes on after it. -/
theorem transitEnds_port (r : TransitResult) (reading : List Byte) (s : State) :
    PortKept s (afterTransit (endTransit r reading s)) := by
  refine (endTransit_frame r reading s).1.port.trans ?_
  unfold afterTransit; split
  · rfl
  · exact (dispatchNext_workFrame _).port

theorem attemptFailed_port (t : Transaction) (s : State) : PortKept s (attemptFailed t s) := by
  unfold attemptFailed; split
  · rename_i a _; exact (countError_frame a s).port.trans (pollFailed_port t a _)
  · exact transitEnds_port _ _ s

theorem attemptAnswered_port (t : Transaction) (reply : Frame) (s : State) : PortKept s (attemptAnswered t reply s) := by
  unfold attemptAnswered; split
  · rename_i a _
    exact ((nodeOutcome_frame a true s).1.port.trans (readingArrival_frame a reply.payload _).port).trans
      (pollAfter_port a _)
  · exact transitEnds_port _ _ s

theorem faultSegment_port (s : State) : PortKept s (faultSegment s) :=
  PortKept.trans (t := { s with countdown := 2 }) rfl (changeSegment_frame .faulted _).port

theorem attemptContended_port (t : Transaction) (s : State) : PortKept s (attemptContended t s) := by
  have counted : PortKept s { s with contention := s.contention + 1 } := rfl
  unfold attemptContended; dsimp only
  split <;> split
  · rename_i a _
    have cleared : PortKept s { s with contention := s.contention + 1, transaction := none } := rfl
    exact ((cleared.trans (nodeOutcome_frame a false _).1.port).trans (faultSegment_port _)).trans
      (surveyCompletion_port false _)
  · exact (counted.trans (endTransit_frame _ _ _).1.port).trans (faultSegment_port _)
  · exact counted.trans (pollFailed_port t _ _)
  · exact counted.trans (transitEnds_port _ _ _)

theorem endReception_port (chars : List Byte) (t : Transaction) (s : State) : PortKept s (endReception chars t s) := by
  unfold endReception; split
  · rfl
  · split
    · exact attemptAnswered_port t _ s
    · exact attemptFailed_port t s
  · exact attemptFailed_port t s

theorem becomeReleased_port (s : State) : PortKept s (becomeReleased s) :=
  PortKept.trans (t := { s with contention := 0, countdown := 0 }) rfl (changeSegment_frame .released _).port

theorem releaseSegment_port (s : State) : PortKept s (releaseSegment s) := by
  unfold releaseSegment; split
  · rfl
  · split
    · dsimp only; split
      · rename_i a _
        exact PortKept.trans (t := { s with transaction := none }) rfl
          (((nodeOutcome_frame a false _).1.port.trans (becomeReleased_port _)).trans (surveyCompletion_port false _))
      · exact ((endTransit_frame _ _ s).1.port.trans (becomeReleased_port _)).trans (takeHeldTick_port _)
    · split
      · exact (becomeReleased_port s).trans (surveyCompletion_port false _)
      · exact ((becomeReleased_port s).trans (runWork_workFrame _ _).port).trans (takeHeldTick_port _)

theorem enterRun_port (s : State) : PortKept s (enterRun s) := by unfold PortKept; rw [enterRun_frame]

theorem inPhase_port {p : Phase} {f : Transaction → State → State} (h : ∀ t s, PortKept s (f t s)) (s : State) :
    PortKept s (inPhase p f s) := by
  unfold inPhase; split
  · split
    · exact h _ s
    · rfl
  · rfl

theorem live_port {s t u : State} (h : live s u = .next t) (kept : PortKept s u) : PortKept s t := by
  obtain rfl := Host.Outcome.next.inj h
  split
  · rfl
  · exact kept

/-! ## The replies -/

/-- The reply under way holds the attention byte of the state. -/
def Attentive (s : State) : Prop :=
  ∀ reply straps, s.trunkPort = .answering reply straps → reply.payload[1]? = some (attention s)

theorem Attentive.of_listening {s t : State} (listens : s.trunkPort = .listening) (kept : PortKept s t) : Attentive t :=
  fun reply straps sends => by
    have : TrunkPort.listening = .answering reply straps := (listens.symm.trans kept.symm).trans sends
    cases this

theorem answerFrame_attentive (f : Frame) (straps : Bool) (a : Answer) : Attentive (answerFrame f straps a) := by
  rintro reply straps ⟨⟩; rfl

/-- A request's reply is formed over the state its work leaves (R169). -/
theorem answerRequest_attentive {s : State} (listens : s.trunkPort = .listening) (code : Byte) (chars : List Byte)
    (work : List Byte → State → Answer) : Attentive (answerRequest code chars work s) := by
  unfold answerRequest; split
  · exact answerFrame_attentive _ _ _
  · exact .of_listening listens rfl

/-- With no completion waiting, none goes on after the request. -/
theorem answerAndResume_attentive {s : State} (listens : s.trunkPort = .listening) (idle : s.work = []) (code : Byte)
    (chars : List Byte) {work : List Byte → State → Answer} (kept : ∀ payload, (work payload s).state.work = s.work) :
    Attentive (answerAndResume code chars work s) := by
  unfold answerAndResume; split
  · rename_i f _
    have left : (answerFrame f false (work f.payload s)).work = [] := (kept f.payload).trans idle
    have resumed : resume (answerFrame f false (work f.payload s)) = answerFrame f false (work f.payload s) := by
      unfold resume; rw [left]
      exact with_no_work left
    rw [resumed]
    exact answerFrame_attentive _ _ _
  · exact .of_listening listens rfl

theorem GroupFrame.work {s t : State} (h : GroupFrame s t) : t.work = s.work := by rw [h]

theorem holdWork_work (payload : List Byte) (s : State) : (holdWork payload s).state.work = s.work := by
  unfold holdWork answerOnly; split
  · split
    · rfl
    · split <;> rfl
  · rfl

/-- A request with one index leaves of the work what the work on each record leaves. -/
theorem withIndex_work {n : Nat} {work : Fin n → State → Answer} {s : State} (h : ∀ i, (work i s).state.work = s.work)
    (payload : List Byte) : (withIndex n work payload s).state.work = s.work := by
  rcases withIndex_state work payload s with ⟨i, eq⟩ | eq
  · rw [eq]; exact h i
  · rw [eq]

/-- With the port listening and no completion waiting, a command leaves only a reply that holds the attention byte. -/
theorem exec_attentive {c : Instr} {s t : State} (h : exec c s = .next t) (listens : s.trunkPort = .listening)
    (idle : s.work = []) : Attentive t := by
  have kept : ∀ {u : State}, PortKept s u → Attentive u := fun port => .of_listening listens port
  have lived : ∀ {u : State}, live s u = .next t → PortKept s u → Attentive t := fun is port => kept (live_port is port)
  have request := fun code chars work => answerRequest_attentive listens code chars work
  cases c with
  | resetAsserted => obtain rfl := Host.Outcome.next.inj h; exact kept rfl
  | deviceReset straps rate =>
    obtain rfl := Host.Outcome.next.inj h
    have loaded : (restartRuntime (loadTables (readStraps straps rate s))).trunkPort = .listening := by
      unfold loadTables; split <;> rfl
    exact .of_listening loaded rfl
  | cycleTick =>
    refine lived h ?_
    split
    · exact takeTick_port s
    · rfl
  | deferredTick =>
    refine lived h ?_
    split
    · exact takeHeldTick_port s
    · rfl
  | frameTransmitted =>
    exact lived h (inPhase_port (f := fun t u => toPhase .awaiting t { u with contention := 0 }) (fun _ _ => rfl) s)
  | contentionMismatch => exact lived h (inPhase_port attemptContended_port s)
  | fieldReceptionEnd chars => exact lived h (inPhase_port (endReception_port chars) s)
  | framingError => exact lived h (inPhase_port attemptFailed_port s)
  | replyTimeout => exact lived h (inPhase_port attemptFailed_port s)
  | nextAttempt => exact lived h (inPhase_port (f := toPhase .sending) (fun _ _ => rfl) s)
  | openingMarkReceived => exact lived h (inPhase_port (f := toPhase .receiving) (fun _ _ => rfl) s)
  | overrideExpired =>
    refine lived h ?_
    split
    · exact (expireTop_groupFrame _ s).port.trans (runWork_workFrame _ _).port
    · rfl
  | proofTimeout =>
    refine lived h ?_
    split
    · exact (superviseGroup_groupFrame _ s).port.trans (runWork_workFrame _ _).port
    · rfl
  | holdExpired =>
    refine lived h ?_
    split
    · exact PortKept.trans (t := expireHold s) rfl (runWork_workFrame _ _).port
    · rfl
  | warmupCountEnd =>
    refine lived h ?_
    split
    · exact (enterRun_port s).trans (runWork_workFrame _ _).port
    · rfl
  | faultedCountdownEnd =>
    refine lived h ?_
    split
    · exact PortKept.trans (t := { s with countdown := 0, contention := 0 }) rfl
        ((changeSegment_frame .waiting _).port.trans (runWork_workFrame _ _).port)
    · rfl
  | serviceReleaseAsserted =>
    obtain rfl := Host.Outcome.next.inj h
    refine kept ?_
    split
    · exact PortKept.trans (t := { s with releaseLine := true }) rfl (releaseSegment_port _)
    · rfl
  | serviceReleaseDeasserted => obtain rfl := Host.Outcome.next.inj h; refine kept ?_; split <;> rfl
  | saveCompletion cells =>
    refine lived h ?_
    split
    · split <;> rfl
    · rfl
  | checkValueErased =>
    refine lived h ?_
    split
    · split <;> rfl
    · rfl
  | checkValueWritten =>
    refine lived h ?_
    split
    · split <;> rfl
    · rfl
  | trunkFrameDropped => obtain rfl := Host.Outcome.next.inj h; exact kept rfl
  | replySent straps rate => refine lived h ?_; rw [listens]; rfl
  | unknownRequest dst src chars =>
    obtain rfl := Host.Outcome.next.inj h
    unfold answerUnknown; split
    · split
      · exact kept rfl
      · exact answerFrame_attentive _ _ _
    · exact kept rfl
  | restart dst chars =>
    obtain rfl := Host.Outcome.next.inj h
    split
    · exact answerFrame_attentive _ _ _
    · exact kept rfl
  | hold dst chars =>
    obtain rfl := Host.Outcome.next.inj h
    exact answerAndResume_attentive listens idle _ _ fun payload => holdWork_work payload s
  | pushOverride dst chars =>
    obtain rfl := Host.Outcome.next.inj h
    exact answerAndResume_attentive listens idle _ _ fun payload => (pushWork_group payload s).work
  | popOverride dst chars =>
    obtain rfl := Host.Outcome.next.inj h
    exact answerAndResume_attentive listens idle _ _ (withIndex_work fun g => (popWork_group g s).work)
  | fanReset dst chars =>
    obtain rfl := Host.Outcome.next.inj h
    exact answerAndResume_attentive listens idle _ _ (withIndex_work fun f => (fanResetWork_group f s).work)
  | status dst chars => obtain rfl := Host.Outcome.next.inj h; exact request _ _ _
  | readChannel dst chars => obtain rfl := Host.Outcome.next.inj h; exact request _ _ _
  | readZone dst chars => obtain rfl := Host.Outcome.next.inj h; exact request _ _ _
  | readGroup dst chars => obtain rfl := Host.Outcome.next.inj h; exact request _ _ _
  | readFan dst chars => obtain rfl := Host.Outcome.next.inj h; exact request _ _ _
  | readNode dst chars => obtain rfl := Host.Outcome.next.inj h; exact request _ _ _
  | readTable dst chars => obtain rfl := Host.Outcome.next.inj h; exact request _ _ _
  | writeTable dst chars => obtain rfl := Host.Outcome.next.inj h; exact request _ _ _
  | discard dst chars => obtain rfl := Host.Outcome.next.inj h; exact request _ _ _
  | save dst chars => obtain rfl := Host.Outcome.next.inj h; exact request _ _ _
  | run dst chars => obtain rfl := Host.Outcome.next.inj h; exact request _ _ _
  | standby dst chars => obtain rfl := Host.Outcome.next.inj h; exact request _ _ _
  | acknowledge dst chars => obtain rfl := Host.Outcome.next.inj h; exact request _ _ _
  | fetchEvents dst chars => obtain rfl := Host.Outcome.next.inj h; exact request _ _ _
  | pass dst chars => obtain rfl := Host.Outcome.next.inj h; exact request _ _ _
  | collect dst chars => obtain rfl := Host.Outcome.next.inj h; exact request _ _ _

/-- Settles O26: the byte's flags stand in their places, and every reply is formed over the state its request's work leaves. -/
theorem attentionByteBits : Obligations.AttentionByteBits := by
  intro s
  obtain ⟨beacon, events, many, changes, hold, mode, spare⟩ := attention_bits s
  refine ⟨?_, ?_, ?_, ?_, ?_, ?_, spare, fun _ _ _ => rfl, fun c t reply straps h listens sends idle =>
    exec_attentive h listens idle reply straps sends⟩
  · rw [beacon]; exact beaconFunction_iff s
  · rw [events, decide_eq_true_iff]; exact List.length_pos_iff.symm
  · rw [many, decide_eq_true_iff]
  · rw [changes, decide_eq_true_iff]; exact List.length_pos_iff.symm
  · rw [hold]
  · rw [mode]; cases s.mode <;> rfl

end Sys2Proof.Machine
end

section
/-! PROOFS. The spill step and the quantities it reads: O46. -/

namespace Sys2Proof.Machine

/-! ## The members of a zone -/

theorem mem_members {s : State} {k : BindingKind} {z : Fin 16} {i : Fin 64} :
    i ∈ members s k z ↔
      s.tables.bindings[i].valid = true ∧ s.tables.bindings[i].kind = k ∧ s.tables.bindings[i].zone = z := by
  simp [members, and_assoc]

/-- How many members of a zone are of a kind, the kind given as a proposition. -/
theorem members_countP {s : State} {k : BindingKind} {z : Fin 16} (p : Fin 64 → Bool) {q : Fin 64 → Prop} [DecidablePred q]
    (same : ∀ i, q i ↔ i ∈ members s k z ∧ p i = true) :
    ((members s k z).filter p).length = (List.finRange 64).countP fun i => decide (q i) := by
  rw [List.countP_eq_length_filter]
  unfold members
  rw [List.filter_filter]
  congr 1
  refine List.filter_congr fun i _ => ?_
  have := same i
  simp only [mem_members] at this
  rw [Bool.eq_iff_iff]
  simp [this, and_assoc, and_comm]

/-- The channels of a zone's healthy LEAK members. -/
def healthyPads (s : State) (z : Fin 16) : List (Fin 64) :=
  (members s .leak z).filter fun i => s.channels[i].health.isHealthy

theorem mem_healthyPads {s : State} {z : Fin 16} {i : Fin 64} :
    i ∈ healthyPads s z ↔
      (s.tables.bindings[i].valid = true ∧ s.tables.bindings[i].kind = .leak ∧ s.tables.bindings[i].zone = z) ∧
        (s.channels[i].health = .good ∨ s.channels[i].health = .held) := by
  unfold healthyPads; rw [List.mem_filter, mem_members, Health.isHealthy_iff]

theorem spillInputs_wet (s : State) (z : Fin 16) :
    (spillInputs s z).wet = true ↔
      ∃ i ∈ healthyPads s z, (s.tables.bindings[i].wetLevel : Int) ≤ s.channels[i].filtered := by
  have wet : (spillInputs s z).wet =
    (healthyPads s z).any fun i => decide (s.tables.bindings[i].wetLevel ≤ s.channels[i].filtered) := rfl
  simp only [wet, List.any_eq_true, decide_eq_true_iff, Int.ofNat_le]

theorem spillInputs_allDry (s : State) (z : Fin 16) :
    (spillInputs s z).allDry = true ↔ (∃ i, i ∈ healthyPads s z) ∧ ∀ i ∈ healthyPads s z,
      (s.channels[i].filtered : Int) < (s.tables.bindings[i].wetLevel : Int) - (s.tables.zones[z].spillHysteresis : Int) := by
  have dry : (spillInputs s z).allDry = (!(healthyPads s z).isEmpty && (healthyPads s z).all fun i =>
    decide ((s.channels[i].filtered : Int) <
      (s.tables.bindings[i].wetLevel : Int) - (s.tables.zones[z].spillHysteresis : Int))) := rfl
  have some : (!(healthyPads s z).isEmpty) = true ↔ ∃ i, i ∈ healthyPads s z := by
    rw [Bool.not_eq_true', List.isEmpty_eq_false_iff_exists_mem]
  simp only [dry, Bool.and_eq_true, List.all_eq_true, some, decide_eq_true_iff]

/-- A pad below its wet level less the hysteresis is below its wet level (R69). -/
theorem spillInputs_exclusive (s : State) (z : Fin 16) :
    ¬ ((spillInputs s z).wet = true ∧ (spillInputs s z).allDry = true) := by
  rw [spillInputs_wet, spillInputs_allDry]
  rintro ⟨⟨i, pad, wet⟩, -, dry⟩
  have := dry i pad
  omega

theorem spillInputs_healthy_le (s : State) (z : Fin 16) : (spillInputs s z).healthy ≤ (spillInputs s z).bound :=
  List.length_filter_le _ _

/-! ## The spill step -/

theorem decideSpill_blind {q : SpillInputs} {r : ZoneRecord} (bound : 1 ≤ q.bound) (none : q.healthy = 0) :
    decideSpill q r = { r with spillBlind := true } := by
  unfold decideSpill; rw [if_neg (by omega), if_pos none]

/-- With a healthy member, or with none bound, the step is one transition of R71, an unbound zone's with all dry (R72). -/
theorem decideSpill_seen {q : SpillInputs} {r : ZoneRecord} (seen : q.bound = 0 ∨ 1 ≤ q.healthy) (wet dry : Bool)
    (isWet : wet = true ↔ 1 ≤ q.bound ∧ q.wet = true) (isDry : dry = true ↔ q.bound = 0 ∨ q.allDry = true) :
    decideSpill q r = { r with
      spill := (spillTransition wet dry r.spill r.spillAck).1
      spillAck := (spillTransition wet dry r.spill r.spillAck).2, spillBlind := false } := by
  unfold decideSpill
  by_cases none : q.bound = 0
  · have hw : wet = false := by
      rw [← Bool.not_eq_true, isWet]; omega
    have hd : dry = true := isDry.mpr (.inl none)
    rw [if_pos none, hw, hd]
  · have hw : wet = q.wet := by rw [Bool.eq_iff_iff, isWet]; exact and_iff_right (by omega)
    have hd : dry = q.allDry := by rw [Bool.eq_iff_iff, isDry]; exact or_iff_right none
    rw [if_neg none, if_neg (by omega), hw, hd]

/-- The rows of R71. -/
theorem spillTransition_rows (wet dry ack : Bool) (st : Spill) :
    (wet = true → spillTransition wet dry st ack = (.wet, if st = .wet then ack else false)) ∧
    (wet = false → st = .dry → spillTransition wet dry st ack = (.dry, ack)) ∧
    (wet = false → st = .wet → dry = false → spillTransition wet dry st ack = (.wet, ack)) ∧
    (wet = false → st = .wet → dry = true → ack = false → spillTransition wet dry st ack = (.latched, false)) ∧
    (wet = false → st = .wet → dry = true → ack = true → spillTransition wet dry st ack = (.dry, false)) ∧
    (wet = false → st = .latched → ack = false → spillTransition wet dry st ack = (.latched, false)) ∧
    (wet = false → st = .latched → ack = true → spillTransition wet dry st ack = (.dry, false)) := by
  refine ⟨?_, ?_, ?_, ?_, ?_, ?_, ?_⟩
  · rintro rfl; cases st <;> rfl
  · rintro rfl rfl; rfl
  · rintro rfl rfl rfl; rfl
  · rintro rfl rfl rfl rfl; rfl
  · rintro rfl rfl rfl rfl; rfl
  · rintro rfl rfl rfl; rfl
  · rintro rfl rfl rfl; rfl

/-- Settles O46: the quantities are the members', and the step is R71's transition over them. -/
theorem spillStepTransitions : Obligations.SpillStepTransitions := by
  refine ⟨fun s z => ?_, fun q r _ _ => ?_⟩
  · intro pad healthyPad value wetAt q
    refine ⟨?_, ?_, spillInputs_healthy_le s z, ?_, ?_, spillInputs_exclusive s z⟩
    · refine Eq.trans ?_ (members_countP (k := .leak) (fun _ => true) (q := pad) fun i =>
        mem_members.symm.trans (and_iff_left rfl).symm)
      rw [List.filter_true]; rfl
    · exact members_countP _ fun i => by rw [mem_members, Health.isHealthy_iff]
    · rw [spillInputs_wet]; simp only [mem_healthyPads, wetAt, value, healthyPad, pad]
    · rw [spillInputs_allDry]; simp only [mem_healthyPads, wetAt, value, healthyPad, pad]
  · intro r'
    refine ⟨fun bound none => ?_, fun seen => ?_⟩
    · have eq : r' = _ := decideSpill_blind bound none
      rw [eq]; exact ⟨rfl, rfl, rfl⟩
    · intro wet dry
      have eq : r' = _ := decideSpill_seen seen (decide wet) (decide dry) decide_eq_true_iff decide_eq_true_iff
      obtain ⟨getsWet, staysDry, staysWet, latches, dries, staysLatched, clears⟩ :=
        spillTransition_rows (decide wet) (decide dry) r.spillAck r.spill
      have fields : ∀ {st : Spill} {ack : Bool}, spillTransition (decide wet) (decide dry) r.spill r.spillAck = (st, ack) →
          r'.spill = st ∧ r'.spillAck = ack := fun row => by rw [eq, row]; exact ⟨rfl, rfl⟩
      have no : ∀ {p : Prop} [Decidable p], ¬ p → decide p = false := fun not => decide_eq_false not
      exact ⟨by rw [eq], fun w => fields (getsWet (decide_eq_true w)), fun w st => fields (staysDry (no w) st),
        fun w st d => fields (staysWet (no w) st (no d)),
        fun w st d ack => fields (latches (no w) st (decide_eq_true d) ack),
        fun w st d ack => fields (dries (no w) st (decide_eq_true d) ack),
        fun w st ack => fields (staysLatched (no w) st ack), fun w st ack => fields (clears (no w) st ack)⟩

end Sys2Proof.Machine
end

section
/-! PROOFS. One zone's evaluation: the gas decision with and without healthy members, the history ring and RISING, the contact
flags, and the four writes with their events: O45. -/

namespace Sys2Proof.Machine

/-! ## The gas decision with a healthy member -/

theorem countAt_eq (vs : List Nat) (x : Nat) : countAt vs x = vs.countP fun v => decide (x ≤ v) :=
  List.countP_eq_length_filter.symm

section
variable {e : ZoneEntry} {r : ZoneRecord} {vs : List Nat}

/-- The ranked gas states are the four from NORMAL to ALARM (R42). -/
def Gas.Ranked (g : Gas) : Prop := g ≠ .fault ∧ g ≠ .inactive

theorem upTarget_ranked (e : ZoneEntry) (vs : List Nat) : (upTarget e vs).Ranked := by
  unfold upTarget; repeat' split
  all_goals exact ⟨nofun, nofun⟩

theorem Gas.rank_injective {g h : Gas} (ranked : g.Ranked) (ranked' : h.Ranked) (same : g.rank = h.rank) : g = h := by
  obtain ⟨fault, inactive⟩ := ranked
  obtain ⟨fault', inactive'⟩ := ranked'
  cases g <;> cases h <;> simp_all [Gas.rank]

theorem gasWithSense_fault (fault : r.gas = .fault) : gasWithSense e r vs = upTarget e vs := if_pos (.inl fault)

theorem gasWithSense_rise (ranked : r.gas.Ranked) (rise : r.gas.rank ≤ (upTarget e vs).rank) :
    gasWithSense e r vs = upTarget e vs := by
  unfold gasWithSense; dsimp only
  rw [if_neg (by rintro (h | h); exacts [ranked.1 h, ranked.2 h])]
  split
  · rfl
  · rw [if_pos (Gas.rank_injective (upTarget_ranked e vs) ranked (by omega))]

/-- Below the present state the latch, the keep condition and the fall decide, in this order. -/
theorem gasWithSense_below (ranked : r.gas.Ranked) (below : (upTarget e vs).rank < r.gas.rank) :
    gasWithSense e r vs =
      if latched e r = true then .alarm else if keeps e vs r.gas = true then r.gas else fallFrom e vs r.gas := by
  unfold gasWithSense; dsimp only
  rw [if_neg (by rintro (h | h); exacts [ranked.1 h, ranked.2 h]), if_neg (by omega),
    if_neg (by intro same; rw [same] at below; exact absurd below (by omega))]

theorem latched_iff : latched e r = true ↔ r.gas = .alarm ∧ e.latch = true ∧ r.alarmAck = false := by
  simp [latched, and_assoc]

theorem keeps_alarm : keeps e vs .alarm = true ↔
    min e.vote vs.length ≤ vs.countP fun v => decide (e.alarm - e.hysteresis ≤ v) := by
  rw [← countAt_eq]; exact decide_eq_true_iff

theorem keeps_alert : keeps e vs .alert = true ↔ e.alert - e.hysteresis ≤ largest vs := decide_eq_true_iff
theorem keeps_watch : keeps e vs .watch = true ↔ e.watch - e.hysteresis ≤ largest vs := decide_eq_true_iff

theorem fallFrom_alarm : fallFrom e vs .alarm =
    if keeps e vs .alert = true then .alert else if keeps e vs .watch = true then .watch else .normal := by
  simp [fallFrom, Gas.rank]

theorem fallFrom_alert : fallFrom e vs .alert = if keeps e vs .watch = true then .watch else .normal := by
  simp [fallFrom, Gas.rank]

theorem fallFrom_watch : fallFrom e vs .watch = .normal := by simp [fallFrom, Gas.rank]

/-- A state above NORMAL that is the up-target's keeps: the lowered threshold is met where the threshold is. -/
theorem keeps_of_target {g : Gas} (target : upTarget e vs = g) (above : g ≠ .normal) (notAlarm : g ≠ .alarm) :
    keeps e vs g = true := by
  subst target
  unfold upTarget at above notAlarm ⊢
  split at above
  · rw [if_pos ‹_›] at notAlarm; exact absurd rfl notAlarm
  · rename_i low
    rw [if_neg low]
    split
    · exact keeps_alert.mpr (by omega)
    · split
      · exact keeps_watch.mpr (by omega)
      · rename_i h1 h2; rw [if_neg h1, if_neg h2] at above; exact absurd rfl above

/-- The fall ends at the up-target or above it. -/
theorem fallFrom_rank {g : Gas} (below : (upTarget e vs).rank < g.rank) : (upTarget e vs).rank ≤ (fallFrom e vs g).rank := by
  have alert := keeps_of_target (e := e) (vs := vs) (g := .alert)
  have watch := keeps_of_target (e := e) (vs := vs) (g := .watch)
  unfold fallFrom
  cases target : upTarget e vs with
  | normal => exact Nat.zero_le _
  | fault => exact Nat.zero_le _
  | inactive => exact Nat.zero_le _
  | watch =>
    rw [target] at below
    have keep := watch target nofun nofun
    split
    · decide
    · rw [if_pos ⟨below, keep⟩]
  | alert =>
    rw [target] at below
    rw [if_pos ⟨below, alert target nofun nofun⟩]
  | alarm =>
    have most : g.rank ≤ 3 := by cases g <;> decide
    rw [target] at below
    exact absurd (lt_of_lt_of_le below most) (by decide)

/-- R48: the new gas state is never below the up-target. -/
theorem gasWithSense_rank (active : r.gas ≠ .inactive) : (upTarget e vs).rank ≤ (gasWithSense e r vs).rank := by
  by_cases fault : r.gas = .fault
  · rw [gasWithSense_fault fault]
  · by_cases rise : r.gas.rank ≤ (upTarget e vs).rank
    · rw [gasWithSense_rise ⟨fault, active⟩ rise]
    · have below : (upTarget e vs).rank < r.gas.rank := by omega
      rw [gasWithSense_below ⟨fault, active⟩ below]
      split
      · exact (by cases upTarget e vs <;> decide : (upTarget e vs).rank ≤ 3)
      · split
        · exact below.le
        · exact fallFrom_rank below

theorem fallFrom_ranked (g : Gas) : (fallFrom e vs g).Ranked := by
  unfold fallFrom; repeat' split
  all_goals exact ⟨nofun, nofun⟩

/-- With a healthy member no zone enters FAULT. -/
theorem gasWithSense_ranked (active : r.gas ≠ .inactive) : (gasWithSense e r vs).Ranked := by
  by_cases fault : r.gas = .fault
  · rw [gasWithSense_fault fault]; exact upTarget_ranked e vs
  · by_cases rise : r.gas.rank ≤ (upTarget e vs).rank
    · rw [gasWithSense_rise ⟨fault, active⟩ rise]; exact upTarget_ranked e vs
    · rw [gasWithSense_below ⟨fault, active⟩ (by omega)]
      split
      · exact ⟨nofun, nofun⟩
      · split
        · exact ⟨fault, active⟩
        · exact fallFrom_ranked _

/-- The states below the present one, by what keeps. -/
theorem gasWithSense_falls (ranked : r.gas.Ranked) (below : (upTarget e vs).rank < r.gas.rank)
    (free : ¬ (r.gas = .alarm ∧ e.latch = true ∧ r.alarmAck = false)) :
    gasWithSense e r vs = if keeps e vs r.gas = true then r.gas else fallFrom e vs r.gas := by
  rw [gasWithSense_below ranked below, if_neg (mt latched_iff.mp free)]

/-- R50, R52: the record with its new gas state and the quantities of its evaluation. -/
theorem decideGas_sensed {mode : Mode} {q : GasInputs} (some : q.values ≠ []) (active : r.gas ≠ .inactive) :
    decideGas mode e r q = { r with
      gas := gasWithSense e r q.values, reading := largest q.values, healthy := q.values.length, settling := q.settling
      bound := q.bound, alarmVotes := q.values.countP fun v => decide (e.alarm ≤ v)
      effectiveVote := min e.vote q.values.length, noSense := false
      alarmAck := r.alarmAck && r.gas == .alarm && gasWithSense e r q.values == .alarm } := by
  have ranked : (gasWithSense e r q.values).Ranked := gasWithSense_ranked active
  unfold decideGas enterGas; dsimp only
  rw [if_neg (mt List.length_eq_zero_iff.mp some), if_neg fun h => ranked.1 h.1, countAt_eq]

/-- The record of a zone without a healthy member, for the decision of R50. -/
theorem decideGas_blind {mode : Mode} {settling bound : Nat} {d : BlindDecision}
    (decided : gasWithoutSense mode e r { values := [], settling := settling, bound := bound } = d) :
    decideGas mode e r { values := [], settling := settling, bound := bound } = { r with
      gas := d.gas, reading := d.reading, healthy := 0, settling := settling, bound := bound, alarmVotes := 0
      effectiveVote := 0, noSense := d.noSense, alarmAck := r.alarmAck && r.gas == .alarm && d.gas == .alarm
      ring := if d.gas = .fault ∧ r.gas ≠ .fault then [] else r.ring } := by
  subst decided
  unfold decideGas enterGas
  simp [countAt]

end

/-! ## The gas decision without one -/

section
variable {mode : Mode} {e : ZoneEntry} {r : ZoneRecord} {settling bound : Nat}

/-- The decision of R50 on the quantities of a zone without a healthy member. -/
def blind (mode : Mode) (e : ZoneEntry) (r : ZoneRecord) (settling bound : Nat) : BlindDecision :=
  gasWithoutSense mode e r { values := [], settling := settling, bound := bound }

theorem blind_unbound (none : bound = 0) :
    blind mode e r settling bound =
      if latched e r = true then { gas := .alarm, reading := r.reading, noSense := true }
      else { gas := .normal, reading := 0, noSense := false } := by
  subst none
  simp [blind, gasWithoutSense]

theorem blind_waits (some : 1 ≤ bound) (waits : mode = .warmup ∨ settling = bound) :
    blind mode e r settling bound = { gas := r.gas, reading := r.reading, noSense := r.noSense } := by
  have := Nat.one_le_iff_ne_zero.mp some
  unfold blind gasWithoutSense; dsimp only
  rw [if_neg (fun h => this h.1), if_neg this]
  rcases waits with warm | all
  · rw [if_pos warm]
  · rw [if_pos all, ite_self]

theorem blind_lost (some : 1 ≤ bound) (active : mode ≠ .warmup) (left : settling ≠ bound) :
    blind mode e r settling bound =
      if latched e r = true then { gas := .alarm, reading := r.reading, noSense := true }
      else { gas := .fault, reading := r.reading, noSense := false } := by
  have := Nat.one_le_iff_ne_zero.mp some
  unfold blind gasWithoutSense; dsimp only
  rw [if_neg (fun h => this h.1), if_neg this, if_neg active, if_neg left]

end

/-! ## The history ring and RISING -/

section
variable {e : ZoneEntry} {r : ZoneRecord}

theorem decideRising_frame (e : ZoneEntry) (r : ZoneRecord) :
    decideRising e r = { r with ring := (decideRising e r).ring, rising := (decideRising e r).rising } := rfl

theorem decideRising_ring : (decideRising e r).ring = if r.healthy = 0 then r.ring else pushRing r.ring r.reading := rfl

theorem pushRing_short {ring : List Nat} {n : Nat} (short : ring.length < 8) : pushRing ring n = ring ++ [n] := by
  unfold pushRing; rw [if_pos short]

theorem pushRing_full {x n : Nat} {xs : List Nat} (full : xs.length = 7) : pushRing (x :: xs) n = xs ++ [n] := by
  unfold pushRing; rw [if_neg (by simp [full])]; rfl

/-- The states in which RISING is clear (R57). -/
def Gas.High (g : Gas) : Prop := g = .alert ∨ g = .alarm ∨ g = .fault

theorem decideRising_high (high : r.gas.High) : (decideRising e r).rising = false := if_pos high

theorem risingOf_low (low : ¬ r.gas.High) :
    risingOf e r = if r.healthy = 0 then r.rising else
      ((rateOf r.ring e.rateWindow).elim false fun rate => if (e.rateThreshold : Int) ≤ rate then true
        else if rate < ((e.rateThreshold / 2 : Nat) : Int) then false else r.rising) := by
  unfold Gas.High at low
  unfold risingOf; rw [if_neg low]
  cases rateOf r.ring e.rateWindow <;> rfl

theorem decideRising_unsensed (low : ¬ r.gas.High) (none : r.healthy = 0) : (decideRising e r).rising = r.rising := by
  refine Eq.trans (risingOf_low (r := { r with ring := (decideRising e r).ring }) low) ?_
  exact if_pos none

theorem rateOf_short {ring : List Nat} {w : Nat} (short : ring.length ≤ w) : rateOf ring w = none := if_pos short

/-- R56: the newest reading less the one the window's length before it. -/
theorem rateOf_window (before between : List Nat) (older newest : Nat) :
    rateOf (before ++ older :: between ++ [newest]) (between.length + 1) = some ((newest : Int) - older) := by
  have reversed : (before ++ older :: between ++ [newest]).reverse = newest :: (between.reverse ++ older :: before.reverse) := by
    simp
  have at_window : (newest :: (between.reverse ++ older :: before.reverse)).getD (between.length + 1) 0 = older := by
    rw [List.getD_cons_succ, List.getD_append_right _ _ _ _ (by simp)]; simp
  unfold rateOf
  rw [if_neg (by simp; omega), reversed, at_window]; rfl

/-- R57: RISING of a low zone that has sensed, by the rate its ring gives. -/
theorem decideRising_none (low : ¬ r.gas.High) (some : 1 ≤ r.healthy)
    (short : (decideRising e r).ring.length ≤ e.rateWindow) : (decideRising e r).rising = false := by
  refine Eq.trans (risingOf_low (r := { r with ring := (decideRising e r).ring }) low) ?_
  dsimp only
  rw [if_neg (by omega), rateOf_short short]; rfl

theorem decideRising_rate (low : ¬ r.gas.High) (some : 1 ≤ r.healthy) {rate : Int}
    (given : rateOf (decideRising e r).ring e.rateWindow = .some rate) :
    (decideRising e r).rising = if (e.rateThreshold : Int) ≤ rate then true
      else if rate < ((e.rateThreshold / 2 : Nat) : Int) then false else r.rising := by
  refine Eq.trans (risingOf_low (r := { r with ring := (decideRising e r).ring }) low) ?_
  dsimp only
  rw [if_neg (by omega), given]; rfl

end

/-! ## A zone's record written, with its events -/

/-- R59, R60, R74: what changes of a zone record is posted. -/
structure ZonePosted (z : Fin 16) (old new : ZoneRecord) (s t : State) : Prop where
  gas : old.gas ≠ new.gas ∨ old.noSense ≠ new.noSense →
    Posted s t .zoneState z.val (detailOf new.gas.code (old.gas.code + 16 * new.noSense.toNat))
  rising : old.rising ≠ new.rising →
    Posted s t .rising z.val (detailOf (128 * new.rising.toNat + new.reading / 256) new.reading)
  spill : old.spill ≠ new.spill ∨ old.spillBlind ≠ new.spillBlind →
    Posted s t .spillState z.val (detailOf new.spill.code (old.spill.code + 16 * new.spillBlind.toNat))

theorem ZonePosted.then {z : Fin 16} {old new : ZoneRecord} {s t u : State} (h : ZonePosted z old new s t)
    (more : QueueGrows t u) : ZonePosted z old new s u :=
  ⟨fun c => (h.gas c).then more, fun c => (h.rising c).then more, fun c => (h.spill c).then more⟩

theorem ZonePosted.after {z : Fin 16} {old new : ZoneRecord} {s t u : State} (before : QueueGrows s t)
    (h : ZonePosted z old new t u) : ZonePosted z old new s u :=
  ⟨fun c => .after before (h.gas c), fun c => .after before (h.rising c), fun c => .after before (h.spill c)⟩

section
variable (z : Fin 16) (old new : ZoneRecord) (s : State)

theorem postZoneState_grows : QueueGrows s (postZoneState z old new s) := by
  unfold postZoneState; split
  · exact .refl s
  · exact post_grows _ _ _ s

theorem postRising_grows : QueueGrows s (postRising z old new s) := by
  unfold postRising; split
  · exact .refl s
  · exact post_grows _ _ _ s

theorem postSpill_grows : QueueGrows s (postSpill z old new s) := by
  unfold postSpill; split
  · exact .refl s
  · exact post_grows _ _ _ s

theorem postZoneState_posted (changed : old.gas ≠ new.gas ∨ old.noSense ≠ new.noSense) :
    Posted s (postZoneState z old new s) .zoneState z.val
      (detailOf new.gas.code (old.gas.code + 16 * new.noSense.toNat)) := by
  unfold postZoneState
  rw [if_neg fun same => changed.elim (fun h => h same.1) fun h => h same.2]
  exact posted_post _ _ _ s

theorem postRising_posted (changed : old.rising ≠ new.rising) :
    Posted s (postRising z old new s) .rising z.val
      (detailOf (128 * new.rising.toNat + new.reading / 256) new.reading) := by
  unfold postRising; rw [if_neg changed]; exact posted_post _ _ _ s

theorem postSpill_posted (changed : old.spill ≠ new.spill ∨ old.spillBlind ≠ new.spillBlind) :
    Posted s (postSpill z old new s) .spillState z.val
      (detailOf new.spill.code (old.spill.code + 16 * new.spillBlind.toNat)) := by
  unfold postSpill
  rw [if_neg fun same => changed.elim (fun h => h same.1) fun h => h same.2]
  exact posted_post _ _ _ s

/-- The three events of a replaced record, in their order. -/
theorem replaceZone_posted : ZonePosted z s.zones[z] new s (replaceZone z new s) ∧ QueueGrows s (replaceZone z new s) := by
  have set : QueueGrows s (setZone z new s) := .of_same rfl rfl
  have gas := postZoneState_grows z s.zones[z] new (setZone z new s)
  have rising := postRising_grows z s.zones[z] new (postZoneState z s.zones[z] new (setZone z new s))
  have spill := postSpill_grows z s.zones[z] new
    (postRising z s.zones[z] new (postZoneState z s.zones[z] new (setZone z new s)))
  refine ⟨⟨fun changed => ?_, fun changed => ?_, fun changed => ?_⟩, set.trans (gas.trans (rising.trans spill))⟩
  · exact .after set ((postZoneState_posted z _ new _ changed).then (rising.trans spill))
  · exact .after (set.trans gas) ((postRising_posted z _ new _ changed).then spill)
  · exact .after (set.trans (gas.trans rising)) (postSpill_posted z _ new _ changed)

end

/-- From `s` to `t` the zone `z` took a part of its evaluation. -/
structure ZoneTurn (z : Fin 16) (s t : State) : Prop where
  frame : ZoneFrame s t
  others : ∀ y : Fin 16, y ≠ z → t.zones[y] = s.zones[y]
  unserved : ∀ g : Fin 4, s.tables.zones[z].groupMask.getLsbD g.val = false → t.groups[g] = s.groups[g] ∧
    ∀ f : Fin 8, s.tables.fans[f].group = g → t.fans[f] = s.fans[f]
  grows : QueueGrows s t

theorem ZoneTurn.trans {z : Fin 16} {s t u : State} (h : ZoneTurn z s t) (k : ZoneTurn z t u) : ZoneTurn z s u := by
  have tables := h.frame.tables
  refine ⟨h.frame.trans k.frame, fun y ne => (k.others y ne).trans (h.others y ne), fun g out => ?_, h.grows.trans k.grows⟩
  obtain ⟨groups, fans⟩ := h.unserved g out
  obtain ⟨groups', fans'⟩ := k.unserved g (by rw [tables]; exact out)
  exact ⟨groups'.trans groups, fun f own => (fans' f (by rw [tables]; exact own)).trans (fans f own)⟩

theorem judgeAlarm_grows (s : State) : QueueGrows s (judgeAlarm s) := .of_same rfl rfl

/-- Writing a zone's record posts its changes, restages the groups it serves, and leaves the others. -/
theorem writeZone_turn (z : Fin 16) (new : ZoneRecord) (s : State) :
    ZoneTurn z s (writeZone z new s) ∧ ZonePosted z s.zones[z] new s (writeZone z new s) := by
  obtain ⟨posted, grows⟩ := replaceZone_posted z new s
  have replaced := replaceZone_eq z new s
  have tables := (replaceZone_zoneFrame z new s).tables
  have others : ∀ y : Fin 16, y ≠ z → (writeZone z new s).zones[y] = s.zones[y] := fun y ne => by
    rw [zones_writeZone, if_neg fun is => ne is.symm]
  have judged := judgeAlarm_grows
  have frame := writeZone_zoneFrame z new s
  unfold writeZone at others frame ⊢; dsimp only at others frame ⊢
  split at others <;> rename_i served
  · rw [if_pos served] at frame ⊢
    refine ⟨⟨frame, others, fun g _ => ⟨?_, fun f _ => ?_⟩, grows.trans (judged _)⟩, posted.then (judged _)⟩
    · rw [judgeAlarm_groups, replaced]
    · rw [judgeAlarm_fans, replaced]
  · rw [if_neg served] at frame ⊢
    have restaged := forEachGroup_restaged (servedGroups_nodup s.tables.zones[z].groupMask) (replaceZone z new s)
    refine ⟨⟨frame, others, fun g out => ?_, grows.trans (restaged.grows.trans (judged _))⟩,
      posted.then (restaged.grows.trans (judged _))⟩
    have unserved : g ∉ servedGroups s.tables.zones[z].groupMask := by
      rw [mem_servedGroups, out]; nofun
    refine ⟨?_, fun f own => ?_⟩
    · rw [judgeAlarm_groups, restaged.groups, if_neg unserved, replaced]
    · rw [judgeAlarm_fans, restaged.fans, tables, own, if_neg unserved, replaced]

/-! ## The quantities a zone's evaluation reads -/

section
variable {s t : State} {z : Fin 16}

theorem contactClosed_congr (role : Role) (channels : t.channels = s.channels) (tables : t.tables = s.tables) :
    contactClosed t z role = contactClosed s z role := by unfold contactClosed members; rw [channels, tables]

theorem spillInputs_congr (channels : t.channels = s.channels) (tables : t.tables = s.tables) :
    spillInputs t z = spillInputs s z := by unfold spillInputs members; rw [channels, tables]

/-- R58: the contact of a role is closed at some healthy member. -/
theorem contactClosed_iff {role : Role} :
    contactClosed s z role = true ↔ ∃ i : Fin 64, (s.tables.bindings[i].valid = true ∧ s.tables.bindings[i].kind = .contact ∧
      s.tables.bindings[i].zone = z) ∧ s.tables.bindings[i].role = role ∧
      (s.channels[i].health = .good ∨ s.channels[i].health = .held) ∧ s.channels[i].contact = .closed := by
  unfold contactClosed
  simp only [List.any_eq_true, mem_members, Bool.and_eq_true, beq_iff_eq, Health.isHealthy_iff, and_assoc]

end

/-! ## The four steps of an evaluation -/

/-- The zone's record as each step of its evaluation leaves it (R43). -/
def gasRecord (s : State) (z : Fin 16) : ZoneRecord :=
  decideGas s.mode s.tables.zones[z] s.zones[z] (gasInputs s z)

def risingRecord (s : State) (z : Fin 16) : ZoneRecord := decideRising s.tables.zones[z] (gasRecord s z)

def contactRecord (s : State) (z : Fin 16) : ZoneRecord :=
  { risingRecord s z with purge := contactClosed s z .purge, equalize := contactClosed s z .equalize }

def spillRecord (s : State) (z : Fin 16) : ZoneRecord := decideSpill (spillInputs s z) (contactRecord s z)

theorem ZoneFrame.channels {s t : State} (h : ZoneFrame s t) : t.channels = s.channels := by rw [h]

/-- The four writes of an evaluation, each over the record the one before left. -/
theorem evaluateZone_writes (z : Fin 16) (s : State) : ∃ gas rising contacts : State,
    gas = writeZone z (gasRecord s z) s ∧ rising = writeZone z (risingRecord s z) gas ∧
      contacts = writeZone z (contactRecord s z) rising ∧ evaluateZone z s = writeZone z (spillRecord s z) contacts ∧
      gas.zones[z] = gasRecord s z ∧ rising.zones[z] = risingRecord s z ∧ contacts.zones[z] = contactRecord s z := by
  have own : ∀ (r : ZoneRecord) (u : State), (writeZone z r u).zones[z] = r := fun r u => by
    rw [zones_writeZone, if_pos rfl]
  obtain ⟨gas, isGas⟩ : ∃ u, u = writeZone z (gasRecord s z) s := ⟨_, rfl⟩
  obtain ⟨rising, isRising⟩ : ∃ u, u = writeZone z (risingRecord s z) gas := ⟨_, rfl⟩
  obtain ⟨contacts, isContacts⟩ : ∃ u, u = writeZone z (contactRecord s z) rising := ⟨_, rfl⟩
  have gasFrame : ZoneFrame s gas := isGas ▸ writeZone_zoneFrame z _ s
  have risingFrame : ZoneFrame s rising := gasFrame.trans (isRising ▸ writeZone_zoneFrame z _ gas)
  have contactsFrame : ZoneFrame s contacts := risingFrame.trans (isContacts ▸ writeZone_zoneFrame z _ rising)
  have gasOwn : gas.zones[z] = gasRecord s z := isGas ▸ own _ s
  have risingOwn : rising.zones[z] = risingRecord s z := isRising ▸ own _ gas
  have contactsOwn : contacts.zones[z] = contactRecord s z := isContacts ▸ own _ rising
  have first : evaluateGas z s = gas := isGas.symm
  have second : evaluateRising z gas = rising := by
    unfold evaluateRising; rw [gasOwn, gasFrame.tables, isRising]; rfl
  have third : evaluateContacts z rising = contacts := by
    unfold evaluateContacts
    rw [risingOwn, contactClosed_congr .purge risingFrame.channels risingFrame.tables,
      contactClosed_congr .equalize risingFrame.channels risingFrame.tables, isContacts]
    rfl
  refine ⟨gas, rising, contacts, isGas, isRising, isContacts, ?_, gasOwn, risingOwn, contactsOwn⟩
  unfold evaluateZone
  rw [first, second, third]
  unfold evaluateSpill
  rw [contactsOwn, spillInputs_congr contactsFrame.channels contactsFrame.tables]
  rfl

theorem decideGas_kept (mode : Mode) (e : ZoneEntry) (r : ZoneRecord) (q : GasInputs) :
    (decideGas mode e r q).rising = r.rising ∧ (decideGas mode e r q).spill = r.spill ∧
      (decideGas mode e r q).spillBlind = r.spillBlind := by
  unfold decideGas enterGas; dsimp only
  split <;> exact ⟨rfl, rfl, rfl⟩

/-- The spill step leaves the fields of the gas decision and RISING. -/
theorem decideSpill_kept (q : SpillInputs) (r : ZoneRecord) :
    (decideSpill q r).gas = r.gas ∧ (decideSpill q r).noSense = r.noSense ∧ (decideSpill q r).rising = r.rising ∧
      (decideSpill q r).reading = r.reading := by
  unfold decideSpill; dsimp only
  split
  · exact ⟨rfl, rfl, rfl, rfl⟩
  · split <;> exact ⟨rfl, rfl, rfl, rfl⟩

/-- What the later steps of an evaluation leave of the gas decision and of RISING. -/
theorem spillRecord_kept (s : State) (z : Fin 16) :
    (spillRecord s z).gas = (gasRecord s z).gas ∧ (spillRecord s z).noSense = (gasRecord s z).noSense ∧
      (spillRecord s z).rising = (risingRecord s z).rising ∧ (spillRecord s z).reading = (risingRecord s z).reading :=
  decideSpill_kept (spillInputs s z) (contactRecord s z)

/-- An evaluation turns its zone, and posts what differs between the record before and the one after (R59, R60, R74). -/
theorem evaluateZone_turn (z : Fin 16) (s : State) :
    ZoneTurn z s (evaluateZone z s) ∧ (evaluateZone z s).zones[z] = spillRecord s z ∧
      ZonePosted z s.zones[z] (spillRecord s z) s (evaluateZone z s) := by
  obtain ⟨gas, rising, contacts, isGas, isRising, isContacts, evaluated, gasOwn, risingOwn, contactsOwn⟩ :=
    evaluateZone_writes z s
  obtain ⟨gasTurn, gasPosted⟩ := writeZone_turn z (gasRecord s z) s
  obtain ⟨risingTurn, risingPosted⟩ := writeZone_turn z (risingRecord s z) gas
  obtain ⟨contactsTurn, -⟩ := writeZone_turn z (contactRecord s z) rising
  obtain ⟨spillTurn, spillPosted⟩ := writeZone_turn z (spillRecord s z) contacts
  rw [← isGas] at gasTurn gasPosted
  rw [← isRising, gasOwn] at risingPosted
  rw [← isRising] at risingTurn
  rw [← isContacts] at contactsTurn
  rw [contactsOwn] at spillPosted
  rw [evaluated]
  obtain ⟨keptRising, keptSpill, keptBlind⟩ := decideGas_kept s.mode s.tables.zones[z] s.zones[z] (gasInputs s z)
  obtain ⟨lastGas, lastSense, lastRising, lastReading⟩ := spillRecord_kept s z
  have later := contactsTurn.grows.trans spillTurn.grows
  refine ⟨gasTurn.trans (risingTurn.trans (contactsTurn.trans spillTurn)), ?_, ⟨fun changed => ?_, fun changed => ?_,
    fun changed => ?_⟩⟩
  · rw [zones_writeZone, if_pos rfl]
  · rw [lastGas, lastSense] at changed ⊢
    exact (gasPosted.gas changed).then (risingTurn.grows.trans later)
  · rw [lastRising] at changed
    rw [lastRising, lastReading]
    exact .after gasTurn.grows ((risingPosted.rising (keptRising.symm ▸ changed)).then later)
  · have before : (contactRecord s z).spill = s.zones[z].spill := keptSpill
    have blind : (contactRecord s z).spillBlind = s.zones[z].spillBlind := keptBlind
    have posted := spillPosted.spill (by rw [before, blind]; exact changed)
    rw [before] at posted
    exact .after (gasTurn.grows.trans (risingTurn.grows.trans contactsTurn.grows)) posted

/-- The outputs follow their functions toward alarm at the finish of an evaluation (R121). -/
theorem evaluateZone_judged (z : Fin 16) (s : State) :
    let t := evaluateZone z s
    (chargeFunction t = false → t.outputs.chargePermit = false) ∧ (beaconFunction t = true → t.outputs.beacon = true) ∧
      (healthyFunction t = false → t.outputs.healthy = false) ∧
      (ventFunction t = .unproven → t.outputs.ventProven = false) := by
  have judged : ∀ u, let t := judgeAlarm u
      (chargeFunction t = false → t.outputs.chargePermit = false) ∧ (beaconFunction t = true → t.outputs.beacon = true) ∧
      (healthyFunction t = false → t.outputs.healthy = false) ∧
      (ventFunction t = .unproven → t.outputs.ventProven = false) := fun u => by
    have charge : chargeFunction (judgeAlarm u) = chargeFunction u := rfl
    have beacon : beaconFunction (judgeAlarm u) = beaconFunction u := rfl
    have healthy : healthyFunction (judgeAlarm u) = healthyFunction u := rfl
    have vent : ventFunction (judgeAlarm u) = ventFunction u := rfl
    dsimp only
    rw [charge, beacon, healthy, vent]
    exact ⟨fun off => by simp [judgeAlarm, off], fun on => by simp [judgeAlarm, on], fun off => by simp [judgeAlarm, off],
      fun off => by simp [judgeAlarm, off]⟩
  exact judged _

/-! ## O45 -/

/-- R44: the quantities of a zone's HYDROGEN members. -/
theorem gasInputs_spelled {s : State} {z : Fin 16} {member healthy waits : Fin 64 → Prop} [DecidablePred member]
    [DecidablePred healthy] [DecidablePred waits] (isMember : ∀ i, member i ↔ i ∈ members s .hydrogen z)
    (isHealthy : ∀ i, healthy i ↔ s.channels[i].health.isHealthy = true)
    (isWaiting : ∀ i, waits i ↔ s.channels[i].health = .settling ∨ s.channels[i].health = .unseen) :
    gasInputs s z = {
      values := ((List.finRange 64).filter fun i => decide (member i ∧ healthy i)).map fun i => s.channels[i].filtered
      settling := (List.finRange 64).countP fun i => decide (member i ∧ waits i)
      bound := (List.finRange 64).countP fun i => decide (member i) } := by
  have values : (members s .hydrogen z).filter (fun i => s.channels[i].health.isHealthy) =
      (List.finRange 64).filter fun i => decide (member i ∧ healthy i) := by
    unfold members
    rw [List.filter_filter]
    refine List.filter_congr fun i _ => ?_
    have mem := isMember i
    simp only [members, List.mem_filter, List.mem_finRange, true_and] at mem
    rw [Bool.eq_iff_iff, decide_eq_true_iff, mem, isHealthy, Bool.and_eq_true, and_comm]
  have waiting : ((members s .hydrogen z).filter fun i =>
      s.channels[i].health == .settling || s.channels[i].health == .unseen).length =
      (List.finRange 64).countP fun i => decide (member i ∧ waits i) :=
    members_countP _ fun i => by rw [isMember, isWaiting, Bool.or_eq_true, beq_iff_eq, beq_iff_eq]
  have bound : (members s .hydrogen z).length = (List.finRange 64).countP fun i => decide (member i) := by
    refine Eq.trans ?_ (members_countP (k := .hydrogen) (fun _ => true) fun i =>
      (isMember i).trans (and_iff_left rfl).symm)
    rw [List.filter_true]
  unfold gasInputs; dsimp only
  rw [values, waiting, bound]

/-- Settles O45: the decisions one by one, and the evaluation as its four writes. -/
theorem zoneEvaluationDecidesGasRisingAndContacts : Obligations.ZoneEvaluationDecidesGasRisingAndContacts := by
  refine ⟨fun e r vs some _ _ _ active => ?_, fun mode e r q some active => decideGas_sensed some active,
    fun mode e r settling bound active => ?_, fun e r => ?_, fun s z => ?_⟩
  · intro top vote votes target g
    have isTarget : upTarget e vs = target := by unfold upTarget; rw [countAt_eq]
    refine ⟨fun v mem => le_largest mem, largest_mem some, fun fault => (gasWithSense_fault fault).trans isTarget,
      fun live rise => (gasWithSense_rise ⟨live, active⟩ (isTarget ▸ rise)).trans isTarget, fun live below => ?_,
      isTarget ▸ gasWithSense_rank active⟩
    have under : (upTarget e vs).rank < r.gas.rank := isTarget ▸ below
    refine ⟨fun alarm latch ack => ?_, fun free => ?_⟩
    · exact (gasWithSense_below ⟨live, active⟩ under).trans (if_pos (latched_iff.mpr ⟨alarm, latch, ack⟩))
    · have falls : g = _ := gasWithSense_falls ⟨live, active⟩ under free
      intro keepsAlarm keepsAlert keepsWatch
      have alarm : keeps e vs .alarm = true ↔ keepsAlarm := keeps_alarm
      have alert : keeps e vs .alert = true ↔ keepsAlert := keeps_alert
      have watch : keeps e vs .watch = true ↔ keepsWatch := keeps_watch
      refine ⟨fun at_ keep => ?_, fun at_ no keep => ?_, fun at_ no no' => ?_, fun at_ => ?_, fun at_ => ?_⟩
      · rw [falls, at_, if_pos (alarm.mpr keep)]
      · rw [falls, at_, if_neg (mt alarm.mp no), fallFrom_alarm, if_pos (alert.mpr keep)]
      · rw [falls, at_, if_neg (mt alarm.mp no), fallFrom_alarm, if_neg (mt alert.mp no')]
        simp only [watch]
      · rw [falls, at_, fallFrom_alert]; simp only [alert, watch]
      · rw [falls, at_, fallFrom_watch]; simp only [watch]
  · intro held becomes
    have latch : latched e r = true ↔ held := latched_iff
    have becomes_of : ∀ {g : Gas} {reading : Nat} {noSense : Bool},
        blind mode e r settling bound = { gas := g, reading := reading, noSense := noSense } → becomes g reading noSense :=
      fun decided => decideGas_blind decided
    refine ⟨fun none hold => ?_, fun none free => ?_, fun some waits => becomes_of (blind_waits some waits),
      fun some awake left hold => ?_, fun some awake left free => ?_⟩
    · exact becomes_of ((blind_unbound none).trans (if_pos (latch.mpr hold)))
    · exact becomes_of ((blind_unbound none).trans (if_neg (mt latch.mp free)))
    · exact becomes_of ((blind_lost some awake left).trans (if_pos (latch.mpr hold)))
    · exact becomes_of ((blind_lost some awake left).trans (if_neg (mt latch.mp free)))
  · refine ⟨decideRising_frame e r, fun none => ?_, fun some short => ?_, fun some x xs ring full => ?_,
      decideRising_high, decideRising_unsensed, decideRising_none, fun low some before between older newest ring window => ?_⟩
    · rw [decideRising_ring, if_pos none]
    · rw [decideRising_ring, if_neg (by omega), pushRing_short short]
    · rw [decideRising_ring, if_neg (by omega), ring, pushRing_full full]
    · exact decideRising_rate low some (by rw [ring, ← window]; exact rateOf_window before between older newest)
  · intro member healthy waits e q shut
    have isMember : ∀ (k : BindingKind) (i : Fin 64), member k i ↔ i ∈ members s k z := fun _ _ => mem_members.symm
    have inputs : gasInputs s z = q :=
      gasInputs_spelled (isMember .hydrogen) (fun i => (Health.isHealthy_iff _).symm) fun i => Iff.rfl
    obtain ⟨turn, own, posted⟩ := evaluateZone_turn z s
    refine ⟨⟨contactRecord s z, own, ?_, contactClosed_iff, contactClosed_iff⟩, turn.others, fun ws => runWork_cons rfl ws, ?_⟩
    · rw [← inputs]; rfl
    · intro t old new
      have isNew : new = spillRecord s z := own
      rw [isNew]
      exact ⟨turn.frame, turn.unserved, posted.gas, posted.rising, posted.spill, evaluateZone_judged z s⟩

end Sys2Proof.Machine
end

section
/-! PROOFS. What a record of each table does when the change list is applied, and which records are rejected (R10 to R16, R62, R63,
R97, R98, R116, R161 to R163). -/

namespace Sys2Proof.Machine

/-! ## A BINDINGS record's class -/

section
variable {old new : Binding}

/-- The record and the entry hold one key (R10). -/
def SameKey (old new : Binding) : Prop := old.node = new.node ∧ old.point = new.point

theorem not_sameKey_iff : ¬ SameKey old new ↔ old.node ≠ new.node ∨ old.point ≠ new.point := by
  unfold SameKey; rw [not_and_or]

theorem classify_staysInvalid (was : old.valid = false) (is : new.valid = false) : classify old new = .staysInvalid := by
  simp [classify, was, is]

theorem classify_validate (was : old.valid = false) (is : new.valid = true) : classify old new = .validate := by
  simp [classify, was, is]

theorem classify_invalidate (was : old.valid = true) (is : new.valid = false) : classify old new = .invalidate := by
  simp [classify, was, is]

theorem classify_rekey (was : old.valid = true) (is : new.valid = true) (key : ¬ SameKey old new) :
    classify old new = .rekey := by
  have differ := not_sameKey_iff.mp key
  unfold classify; rw [was, is]; simp only [Bool.not_true, Bool.false_eq_true, if_false, if_pos differ]

section
variable (was : old.valid = true) (is : new.valid = true) (key : SameKey old new)
include was is key

theorem classify_kept :
    classify old new = if old.kind ≠ new.kind then .rekind else if sameEffect old new then .unchanged else .recalibrate := by
  have same : ¬ (old.node ≠ new.node ∨ old.point ≠ new.point) := fun differ => not_sameKey_iff.mpr differ key
  unfold classify; rw [was, is]; simp only [Bool.not_true, Bool.false_eq_true, if_false, if_neg same]

theorem classify_rekind (kind : old.kind ≠ new.kind) : classify old new = .rekind := by
  rw [classify_kept was is key, if_pos kind]

theorem classify_unchanged (kind : old.kind = new.kind) (effect : sameEffect old new = true) :
    classify old new = .unchanged := by
  rw [classify_kept was is key, if_neg (not_not_intro kind), if_pos effect]

theorem classify_recalibrate (kind : old.kind = new.kind) (effect : ¬ sameEffect old new = true) :
    classify old new = .recalibrate := by
  rw [classify_kept was is key, if_neg (not_not_intro kind), if_neg effect]

end

end

/-! ## The checks of a BINDINGS record -/

section
variable {s : State} {i : Fin 64} {new : Binding}

theorem isAirflow_iff (b : Binding) : isAirflow b = true ↔ b.valid = true ∧ b.kind = .airflow := by
  simp [isAirflow]

theorem breaksFan_iff : breaksFan s i new = true ↔
    s.tables.bindings[i].valid = true ∧ s.tables.bindings[i].kind = .airflow ∧ ¬ (new.valid = true ∧ new.kind = .airflow) ∧
      ∃ f : Fin 8, s.tables.fans[f].airflowSlot = some i := by
  unfold breaksFan
  rw [Bool.and_eq_true, Bool.and_eq_true, isAirflow_iff, Bool.not_eq_true', ← Bool.not_eq_true, isAirflow_iff]
  simp [and_assoc]

/-- R14: a record that breaks a fan's reference is refused for it, whatever its class. -/
theorem bindingRejects_broken (broken : breaksFan s i new = true) : bindingRejects s i new = some .badReference := by
  obtain ⟨valid, air, left, -⟩ := breaksFan_iff.mp broken
  unfold bindingRejects; dsimp only
  cases is : new.valid with
  | false => rw [classify_invalidate valid is]; exact if_pos broken
  | true =>
    by_cases key : SameKey s.tables.bindings[i] new
    · have kind : s.tables.bindings[i].kind ≠ new.kind := fun same => left ⟨is, same ▸ air⟩
      rw [classify_rekind valid is key kind]; exact if_pos broken
    · rw [classify_rekey valid is key]; exact if_pos broken

/-- R12, R13: a record that takes a key, and breaks no reference, is checked for the key and the chain's room. -/
theorem bindingRejects_takes (whole : ¬ breaksFan s i new = true) (takes : takesKey s.tables.bindings[i] new) :
    bindingRejects s i new =
      if keyCollides s i new = true then some .keyCollision else if chainIsFull s i new = true then some .chainFull else none := by
  unfold bindingRejects; dsimp only
  rcases classify_of_takesKey takes with ⟨-, is⟩ | ⟨-, is⟩
  · rw [is]
  · rw [is]; exact if_neg whole

theorem bindingRejects_keeps (whole : ¬ breaksFan s i new = true) (keeps : ¬ takesKey s.tables.bindings[i] new) :
    bindingRejects s i new = none := by
  unfold bindingRejects; dsimp only
  cases was : s.tables.bindings[i].valid with
  | false =>
    have is : new.valid = false := by
      rw [← Bool.not_eq_true]; exact fun is => keeps ⟨is, .inl was⟩
    rw [classify_staysInvalid was is]
  | true =>
    cases is : new.valid with
    | false => rw [classify_invalidate was is]; exact if_neg whole
    | true =>
      have key : SameKey s.tables.bindings[i] new := by
        by_contra differ; exact keeps ⟨is, .inr differ⟩
      by_cases kind : s.tables.bindings[i].kind = new.kind
      · by_cases effect : sameEffect s.tables.bindings[i] new = true
        · rw [classify_unchanged was is key kind effect]
        · rw [classify_recalibrate was is key kind effect]
      · rw [classify_rekind was is key kind]; exact if_neg whole

end

/-! ## The channel of an applied BINDINGS record -/

section
variable (s : State) (i : Fin 64) (new : Binding)

/-- The state with the record's entry and chains, before its notice. -/
def rebound : State :=
  { s with tables := { s.tables with bindings := s.tables.bindings.set i new }
           chains := rechained i s.tables.bindings[i] new s.chains }

theorem applyChange_binding :
    applyChange (.binding i new) s = takeNotice (noticeOf (classify s.tables.bindings[i] new)) i (rebound s i new) := rfl

theorem takeNotice_channels (n : Notice) (u : State) :
    takeNotice n i u = { u with channels := u.channels.set i (takeNotice n i u).channels[i] } := by
  have same : ∀ v : Vector ChannelRecord 64, v.set i v[i] = v := fun v => Vector.set_getElem_self _
  cases n with
  | silent => unfold takeNotice; rw [same]
  | fresh => unfold takeNotice setChannel; simp only [Fin.getElem_fin, Vector.getElem_set_self]
  | gone => unfold takeNotice setChannel; simp only [Fin.getElem_fin, Vector.getElem_set_self]
  | resettle => unfold takeNotice setChannel; simp only [Fin.getElem_fin, Vector.getElem_set_self]

variable {s i new}

theorem applied_fresh (notice : noticeOf (classify s.tables.bindings[i] new) = .fresh) :
    (applyChange (.binding i new) s).channels[i] = ChannelRecord.restarted .unseen := by
  rw [applyChange_binding, notice]; exact Vector.getElem_set_self _

theorem applied_gone (notice : noticeOf (classify s.tables.bindings[i] new) = .gone) :
    (applyChange (.binding i new) s).channels[i] = ChannelRecord.restarted .disabled := by
  rw [applyChange_binding, notice]; exact Vector.getElem_set_self _

theorem applied_silent (notice : noticeOf (classify s.tables.bindings[i] new) = .silent) :
    (applyChange (.binding i new) s).channels[i] = s.channels[i] := by
  rw [applyChange_binding, notice]; rfl

/-- R29: a binding that stays itself is marked by the settle count of its new zone. -/
theorem applied_resettled (notice : noticeOf (classify s.tables.bindings[i] new) = .resettle) :
    (applyChange (.binding i new) s).channels[i] =
      settleRecord s.tables.zones[new.zone].settleCount s.channels[i] := by
  have zone : channelZone (rebound s i new) i = s.tables.zones[new.zone] := by
    have entry : (rebound s i new).tables.bindings[i] = new := Vector.getElem_set_self _
    unfold channelZone; simp only [entry]; rfl
  rw [applyChange_binding, notice]
  refine Eq.trans (Vector.getElem_set_self _) ?_
  rw [zone]; rfl

end

section
variable {s : State} {i : Fin 64} {new : Binding}

/-- R10: a record that is valid and takes the key, or another kind, starts its channel anew. -/
theorem applied_renewed (is : new.valid = true) (fresh : s.tables.bindings[i].valid = false ∨
    ¬ SameKey s.tables.bindings[i] new ∨ s.tables.bindings[i].kind ≠ new.kind) :
    (applyChange (.binding i new) s).channels[i] = ChannelRecord.restarted .unseen := by
  refine applied_fresh ?_
  cases was : s.tables.bindings[i].valid with
  | false => rw [classify_validate was is]; rfl
  | true =>
    by_cases key : SameKey s.tables.bindings[i] new
    · have kind : s.tables.bindings[i].kind ≠ new.kind :=
        (fresh.resolve_left fun no => by rw [was] at no; cases no).resolve_left fun differ => differ key
      rw [classify_rekind was is key kind]; rfl
    · rw [classify_rekey was is key]; rfl

/-- R29: a recalibrated channel that is healthy or settling settles by its new zone's count; in another health it stays. -/
theorem applied_recalibrated (was : s.tables.bindings[i].valid = true) (is : new.valid = true)
    (key : SameKey s.tables.bindings[i] new) (kind : s.tables.bindings[i].kind = new.kind)
    (differs : ¬ sameEffect s.tables.bindings[i] new = true) :
    let c := s.channels[i]
    let c' := (applyChange (.binding i new) s).channels[i]
    let n := s.tables.zones[new.zone].settleCount
    (c.health = .good ∨ c.health = .held → c' = { c with health := .settling, settleLeft := n }) ∧
      (c.health = .settling → c' = { c with settleLeft := n }) ∧
      (c.health ≠ .good → c.health ≠ .held → c.health ≠ .settling → c' = c) := by
  intro c c' n
  have record : c' = settleRecord n c :=
    applied_resettled (by rw [classify_recalibrate was is key kind differs]; rfl)
  rw [settleRecord_eq] at record
  refine ⟨fun healthy => ?_, fun settling => ?_, fun notGood notHeld notSettling => ?_⟩
  · rw [record, if_pos healthy]
  · rw [record, if_neg (by rw [settling]; rintro (h | h) <;> cases h), if_pos settling]
  · rw [record, if_neg (by rintro (h | h); exacts [notGood h, notHeld h]), if_neg notSettling]

/-- R10, R11: the chain of each bucket after an applied BINDINGS record. -/
theorem applied_chains (law : KeysLaw s) (b : Fin 16) :
    let old := s.tables.bindings[i]
    let chain := (applyChange (.binding i new) s).chains[b]
    let rest := s.chains[b].filter fun j => j != i
    (takesKey old new → b = bindingBucket new → chain = rest ++ [i]) ∧
      ((takesKey old new ∧ b ≠ bindingBucket new) ∨ new.valid = false → chain = rest) ∧
      (old.valid = true → new.valid = true → SameKey old new → chain = s.chains[b]) := by
  intro old chain rest
  have chains : chain = (rechained i old new s.chains)[b] := congrArg (fun cs => cs[b]) (applyBinding_chains i new s)
  obtain ⟨taken, invalid, kept⟩ := law.rechained_get i new b
  rw [chains]
  refine ⟨fun takes own => (taken takes).trans (if_pos own), fun out => ?_, fun was is key => ?_⟩
  · rcases out with ⟨takes, other⟩ | out
    · exact (taken takes).trans (if_neg other)
    · exact invalid out
  · exact kept (fun takes => takes.2.elim (fun no => by rw [was] at no; cases no) fun differ => differ key) is

end

/-! ## A ZONES record -/

section
variable {s : State} {z : Fin 16} {e : ZoneEntry}

/-- The state with the stored entry, before the zone's record is replaced. -/
def rewritten (s : State) (z : Fin 16) (e : ZoneEntry) : State :=
  { s with tables := { s.tables with zones := s.tables.zones.set z (storedZone e) } }

theorem applyZone_same (same : s.tables.zones[z] = storedZone e) : applyZone z e s = s := if_pos same

theorem applyZone_idle (differs : s.tables.zones[z] ≠ storedZone e)
    (idle : s.mode = .standby ∨ (s.tables.zones[z].enabled = false ∧ e.enabled = false)) :
    applyZone z e s = rewritten s z e := by
  unfold applyZone; dsimp only
  rw [if_neg differs, if_pos]; · rfl
  simpa [storedZone] using idle

theorem applyZone_active (differs : s.tables.zones[z] ≠ storedZone e) (active : s.mode ≠ .standby)
    (enabled : s.tables.zones[z].enabled = true ∨ e.enabled = true) :
    applyZone z e s = forEachGroup (servedGroups (s.tables.zones[z].groupMask ||| e.groupMask)) restage
      (replaceZone z (rezoned s.tables.zones[z] (storedZone e) s.zones[z]) (rewritten s z e)) := by
  unfold applyZone; dsimp only
  rw [if_neg differs, if_neg]; · rfl
  rintro (idle | ⟨was, is⟩)
  · exact active idle
  · rcases enabled with on | on
    · rw [on] at was; cases was
    · exact absurd (show (!e.enabled) = true from is) (by rw [on]; nofun)

/-- R62, R63, R75: the record of a zone whose entry changed, by what enabled it before and what does after. -/
theorem rezoned_eq {old new : ZoneEntry} (enabled : old.enabled = true ∨ new.enabled = true) (r : ZoneRecord) :
    rezoned old new r =
      if (old.enabled && new.enabled) = true then { r with ring := [], rising := false }
      else if old.enabled = true then ZoneRecord.cleared .inactive else ZoneRecord.cleared .normal := by
  unfold rezoned
  cases was : old.enabled <;> cases is : new.enabled <;> simp_all

end

/-- What a restaging leaves of a group, its stages read off the state it ends in. -/
theorem restagedGroup_read {u t : State} {g : Fin 4} (active : u.mode ≠ .standby) (record : t.groups[g] = restagedGroup u g)
    (stages : demandOf t g = demandOf u g ∧ floorOf t g = floorOf u g) :
    let raises : Prop := u.groups[g].commanded < floorOf t g
    t.groups[g] = { u.groups[g] with
      demand := demandOf t g, floor := floorOf t g, effective := effectiveOf u.mode t.groups[g]
      commanded := if raises then floorOf t g else u.groups[g].commanded
      runOn := if raises then 0 else u.groups[g].runOn, handOver := t.groups[g].handOver } ∧
    (t.groups[g].handOver = true ↔ HandOverHolds u.mode t.groups[g]) := by
  obtain ⟨demand, floor⟩ := stages
  have eq := restagedGroup_eq u g
  have lifts : (u.mode ≠ .standby ∧ u.groups[g].commanded < floorOf u g) ↔ u.groups[g].commanded < floorOf u g :=
    and_iff_right active
  simp only [if_congr lifts rfl rfl] at eq
  dsimp only
  simp only [record, demand, floor]
  exact ⟨eq, handOverDue_iff u.mode (restaged u g)⟩

/-- What an applied ZONES record does in WARMUP and RUN: the zone's record and its events, then the groups of both masks. -/
theorem applyZone_effects {s : State} {z : Fin 16} {e : ZoneEntry} (differs : s.tables.zones[z] ≠ storedZone e)
    (active : s.mode ≠ .standby) (enabled : s.tables.zones[z].enabled = true ∨ e.enabled = true) :
    let t := applyZone z e s
    let now := rezoned s.tables.zones[z] (storedZone e) s.zones[z]
    ∃ u : State, u = { s with
        tables := { s.tables with zones := s.tables.zones.set z (storedZone e) }, zones := s.zones.set z now
        events := u.events, lost := u.lost } ∧
      Restaged (servedGroups (s.tables.zones[z].groupMask ||| e.groupMask)) u t ∧ QueueGrows s u ∧
      ZonePosted z s.zones[z] now s t := by
  intro t now
  have applied : t = _ := applyZone_active differs active enabled
  have restaged := forEachGroup_restaged (servedGroups_nodup (s.tables.zones[z].groupMask ||| e.groupMask))
    (replaceZone z now (rewritten s z e))
  obtain ⟨posted, grows⟩ := replaceZone_posted z now (rewritten s z e)
  have written : QueueGrows s (rewritten s z e) := .of_same rfl rfl
  rw [← applied] at restaged
  exact ⟨_, replaceZone_eq z now (rewritten s z e), restaged, written.trans grows,
    .after written (posted.then restaged.grows)⟩

/-- R62, R63, R75, R98: an applied ZONES record in WARMUP and RUN, the groups of both masks read off the state it leaves. -/
theorem applyZone_changes {s : State} {z : Fin 16} {e : ZoneEntry} (differs : s.tables.zones[z] ≠ storedZone e)
    (active : s.mode ≠ .standby) (enabled : s.tables.zones[z].enabled = true ∨ e.enabled = true) :
    let t := applyZone z e s
    let now := rezoned s.tables.zones[z] (storedZone e) s.zones[z]
    t.zones[z] = now ∧
    t = { s with
      tables := { s.tables with zones := s.tables.zones.set z (storedZone e) }, zones := s.zones.set z now
      groups := t.groups, fans := t.fans, events := t.events, lost := t.lost, draws := t.draws } ∧
    ZonePosted z s.zones[z] now s t ∧
    (∀ g : Fin 4,
      let raises : Prop := s.groups[g].commanded < floorOf t g
      if (s.tables.zones[z].groupMask ||| e.groupMask).getLsbD g.val = true then
        t.groups[g] = { s.groups[g] with
          demand := demandOf t g, floor := floorOf t g, effective := effectiveOf s.mode t.groups[g]
          commanded := if raises then floorOf t g else s.groups[g].commanded
          runOn := if raises then 0 else s.groups[g].runOn, handOver := t.groups[g].handOver } ∧
        (t.groups[g].handOver = true ↔ HandOverHolds s.mode t.groups[g])
      else t.groups[g] = s.groups[g]) ∧
    (∀ f : Fin 8, t.fans[f] = handedFan s t f) ∧ FansPosted s t := by
  obtain ⟨u, isU, restaged, grows, posted⟩ := applyZone_effects differs active enabled
  obtain ⟨t, isT⟩ : ∃ t, t = applyZone z e s := ⟨_, rfl⟩
  rw [← isT] at restaged posted ⊢
  intro _ now
  have mode : u.mode = s.mode := by rw [isU]
  have groups : u.groups = s.groups := by rw [isU]
  have fans : u.fans = s.fans := by rw [isU]
  have frame := restaged.frame
  unfold StageFrame at frame
  rw [isU] at frame
  refine ⟨?_, frame, posted, fun g => ?_, fun f => ?_, fun f changed => ?_⟩
  · rw [restaged.frame.zones, isU]; exact Vector.getElem_set_self _
  · intro raises
    have after := restaged.groups g
    split
    · rename_i served
      rw [if_pos (mem_servedGroups.mpr served)] at after
      have stages : demandOf t g = demandOf u g ∧ floorOf t g = floorOf u g :=
        stages_congr restaged.frame.mode (by rw [restaged.frame.tables])
          (by unfold memberZones; rw [restaged.frame.tables]) fun y _ => by rw [restaged.frame.zones]
      have read := restagedGroup_read (mode ▸ active) after stages
      rw [mode] at read
      simp only [groups] at read
      exact read
    · rename_i unserved
      rw [if_neg (mt mem_servedGroups.mp unserved), groups] at after
      exact after
  · have handed : handedFan u t f = handedFan s t f := by rw [isU]; rfl
    have after := restaged.fans f
    split at after
    · exact after.trans handed
    · rename_i unserved
      have kept := restaged.groups u.tables.fans[f].group
      rw [if_neg unserved] at kept
      refine after.trans (Eq.trans ?_ handed)
      exact (handedFan_same rfl (congrArg GroupRecord.handOver kept)).symm
  · have after := restaged.posted f
    rw [fans] at after
    exact .after grows (after changed)

/-! ## A GROUPS record -/

section
variable {s : State} {g : Fin 4} {e : GroupEntry}

/-- The run set is chosen by the tables and the fans' reasons alone. -/
theorem selectRunSet_congr {ts : Tables} {fans fans' : Vector FanRecord 8} (g : Fin 4)
    (reasons : ∀ f : Fin 8, fans'[f].reason = fans[f].reason) : selectRunSet ts fans' g = selectRunSet ts fans g := by
  unfold selectRunSet eligibleFans
  refine congrArg (List.take _) (List.flatMap_congr fun o _ => List.filter_congr fun f _ => ?_)
  rw [reasons]

theorem applyGroup_same (same : s.tables.groups[g] = e) : applyGroup g e s = s := if_pos same

theorem applyGroup_idle (differs : s.tables.groups[g] ≠ e) (idle : s.mode = .standby) :
    applyGroup g e s = { s with tables := { s.tables with groups := s.tables.groups.set g e } } := by
  unfold applyGroup; dsimp only
  rw [if_neg differs, if_pos idle]

/-- The state with the new entry and the group's run-on cleared, before its recomputation. -/
def regrouped (s : State) (g : Fin 4) (e : GroupEntry) : State :=
  setGroup g { s.groups[g] with runOn := 0 } { s with tables := { s.tables with groups := s.tables.groups.set g e } }

theorem applyGroup_active (differs : s.tables.groups[g] ≠ e) (active : s.mode ≠ .standby) :
    applyGroup g e s = recomputeRunSet g (restage g (regrouped s g e)) := by
  unfold applyGroup; dsimp only
  rw [if_neg differs, if_neg active]; rfl

/-- R97, R162: the record of the group whose entry changed, in WARMUP and RUN. -/
theorem applyGroup_record (differs : s.tables.groups[g] ≠ e) (active : s.mode ≠ .standby) :
    let t := applyGroup g e s
    let r := t.groups[g]
    r.runOn = 0 ∧ r.demand = demandOf t g ∧ r.floor = floorOf t g ∧ r.effective = effectiveOf s.mode r ∧
      r.commanded = max s.groups[g].commanded r.floor ∧ r.stack = s.groups[g].stack ∧
      r.runSet = selectRunSet t.tables t.fans g ∧ r.condition = conditionOf t.tables g r.runSet.length := by
  intro t r
  have applied : t = recomputeRunSet g (restage g (regrouped s g e)) := applyGroup_active differs active
  obtain ⟨u, isU⟩ : ∃ u, u = restage g (regrouped s g e) := ⟨_, rfl⟩
  rw [← isU] at applied
  have staged : GroupFrame (regrouped s g e) u := isU ▸ restage_groupFrame g _
  have frame : GroupFrame u t := applied ▸ recomputeRunSet_groupFrame g u
  have zones : ∀ {v w : State}, GroupFrame v w → w.zones = v.zones := fun h => by rw [h]
  have record : u.groups[g] = restagedGroup (regrouped s g e) g := isU ▸ restage_own g _
  have own : (regrouped s g e).groups[g] = { s.groups[g] with runOn := 0 } := Vector.getElem_set_self _
  have stages : demandOf t g = demandOf (regrouped s g e) g ∧ floorOf t g = floorOf (regrouped s g e) g := by
    have tables := frame.tables.trans staged.tables
    refine stages_congr (frame.mode.trans staged.mode) (by rw [tables]) (by unfold memberZones; rw [tables]) fun z _ => ?_
    rw [(zones frame).trans (zones staged)]
  obtain ⟨demand, floor⟩ := stages
  have eq := restagedGroup_eq (regrouped s g e) g
  have lifts : ((regrouped s g e).mode ≠ .standby ∧ s.groups[g].commanded < floorOf (regrouped s g e) g) ↔
      s.groups[g].commanded < floorOf (regrouped s g e) g := and_iff_right active
  simp only [own, if_congr lifts rfl rfl, ite_self] at eq
  have fields : r = { u.groups[g] with
      runSet := selectRunSet u.tables u.fans g
      condition := conditionOf u.tables g (selectRunSet u.tables u.fans g).length } := by
    show t.groups[g] = _
    rw [applied, recomputeRunSet_groups]; exact Vector.getElem_set_self _
  have selected : selectRunSet t.tables t.fans g = selectRunSet u.tables u.fans g := by
    rw [frame.tables]
    refine selectRunSet_congr g fun f => ?_
    rw [applied]; exact (recomputeRunSet_reasons g u).1 f
  have effective : effectiveOf s.mode r = effectiveOf s.mode (restagedGroup (regrouped s g e) g) := by
    refine effectiveOf_congr ?_ ?_ ?_
    · rw [fields, record]
    · rw [fields, record]
    · rw [fields, record]
  have runSet : r.runSet = selectRunSet u.tables u.fans g := by rw [fields]
  refine ⟨?_, ?_, ?_, ?_, ?_, ?_, runSet.trans selected.symm, ?_⟩
  · rw [fields, record, eq]
  · rw [fields, record, demand, eq]
  · rw [fields, record, floor, eq]
  · rw [effective, fields, record]
    conv_lhs => rw [eq]
    rfl
  · rw [fields, record, eq]
    dsimp only
    split <;> omega
  · rw [fields, record, eq]
  · rw [runSet, frame.tables, fields]

theorem applyGroup_others (g' : Fin 4) (other : g' ≠ g) : (applyGroup g e s).groups[g'] = s.groups[g'] := by
  by_cases same : s.tables.groups[g] = e
  · rw [applyGroup_same same]
  · by_cases idle : s.mode = .standby
    · rw [applyGroup_idle same idle]
    · have ne : g.val ≠ g'.val := fun is => other (Fin.ext is).symm
      rw [applyGroup_active same idle, recomputeRunSet_groups]
      simp only [Fin.getElem_fin, Vector.getElem_set_ne _ _ ne]
      refine (restage_other other _).trans ?_
      exact (groups_setGroup g g' _ _).trans (if_neg fun is => other is.symm)

end

/-! ## Run sets recomputed one after another -/

/-- A group's record with its run set and condition recomputed (R106, R107). -/
def reselected (s : State) (g : Fin 4) : GroupRecord :=
  { s.groups[g] with
    runSet := selectRunSet s.tables s.fans g
    condition := conditionOf s.tables g (selectRunSet s.tables s.fans g).length }

/-- From `s` to `t` the groups `gs` had their run sets recomputed, and no other did. -/
structure Reselected (gs : List (Fin 4)) (s t : State) : Prop where
  frame : GroupFrame s t
  reasons : ∀ f : Fin 8, t.fans[f].reason = s.fans[f].reason
  groups : ∀ g : Fin 4, t.groups[g] = if g ∈ gs then reselected s g else s.groups[g]

theorem Reselected.refl (s : State) : Reselected [] s s := ⟨.refl s, fun _ => rfl, fun g => by simp⟩

theorem Reselected.step {gs : List (Fin 4)} {s t : State} (h : Reselected gs s t) {g : Fin 4} (fresh : g ∉ gs) :
    Reselected (g :: gs) s (recomputeRunSet g t) := by
  refine ⟨h.frame.trans (recomputeRunSet_groupFrame g t), fun f => ((recomputeRunSet_reasons g t).1 f).trans (h.reasons f),
    fun k => ?_⟩
  rw [recomputeRunSet_groups]
  by_cases same : g = k
  · subst same
    simp only [Fin.getElem_fin, Vector.getElem_set_self]
    have before := h.groups g
    rw [if_neg fresh] at before
    rw [if_pos List.mem_cons_self, reselected, h.frame.tables, selectRunSet_congr g h.reasons]
    simp only [Fin.getElem_fin] at before
    rw [before]; rfl
  · have ne : g.val ≠ k.val := fun is => same (Fin.ext is)
    simp only [Fin.getElem_fin, Vector.getElem_set_ne _ _ ne]
    refine (h.groups k).trans ?_
    have mem : k ∈ g :: gs ↔ k ∈ gs := by
      rw [List.mem_cons]; exact or_iff_right fun is => same is.symm
    simp only [mem]; rfl

/-- The recomputed record is read off the state the recomputations end in. -/
theorem Reselected.read {gs : List (Fin 4)} {s t : State} (h : Reselected gs s t) {g : Fin 4} (mem : g ∈ gs) :
    t.groups[g] = { s.groups[g] with
      runSet := selectRunSet t.tables t.fans g
      condition := conditionOf t.tables g (selectRunSet t.tables t.fans g).length } := by
  rw [h.groups, if_pos mem, reselected, h.frame.tables, selectRunSet_congr g h.reasons]

theorem Reselected.congr_list {gs hs : List (Fin 4)} {s t : State} (same : ∀ g, g ∈ gs ↔ g ∈ hs) (h : Reselected gs s t) :
    Reselected hs s t := by
  refine ⟨h.frame, h.reasons, fun g => ?_⟩
  rw [h.groups]; simp only [same]

theorem forEachGroup_reselected {gs : List (Fin 4)} (once : gs.Nodup) (s : State) :
    Reselected gs s (forEachGroup gs recomputeRunSet s) := by
  obtain ⟨done, mem, after⟩ := forEachGroup_once (P := fun done t => Reselected done s t) (f := recomputeRunSet) (s := s) once
    (.refl s) (fun done t n h => ⟨h.frame.trans rfl, h.reasons, h.groups⟩) fun g _ done t fresh h => h.step fresh
  exact after.congr_list mem

/-! ## A FANS record -/

section
variable {s : State} {f : Fin 8} {e : FanEntry}

theorem applyFan_same (same : s.tables.fans[f] = e) : applyFan f e s = s := if_pos same

/-- The state with the new entry and the fan's record restarted, before its groups are recomputed. -/
def refitted (s : State) (f : Fin 8) (e : FanEntry) : State :=
  joinHandOver f e (changeFan f FanRecord.cleared { s with tables := { s.tables with fans := s.tables.fans.set f e } })

theorem applyFan_within (differs : s.tables.fans[f] ≠ e) (same : e.group = s.tables.fans[f].group) :
    applyFan f e s = recomputeRunSet e.group (refitted s f e) := by
  unfold applyFan; dsimp only
  rw [if_neg differs, if_pos same, ← same]; rfl

theorem applyFan_moved (differs : s.tables.fans[f] ≠ e) (moves : e.group ≠ s.tables.fans[f].group) :
    applyFan f e s = recomputeRunSet e.group (recomputeRunSet s.tables.fans[f].group (refitted s f e)) := by
  unfold applyFan; dsimp only
  rw [if_neg differs, if_neg moves]; rfl

/-- The groups a changed fan touches, the one it belongs to first. -/
def fanGroups (s : State) (f : Fin 8) (e : FanEntry) : List (Fin 4) :=
  if e.group = s.tables.fans[f].group then [e.group] else [e.group, s.tables.fans[f].group]

theorem mem_fanGroups {g : Fin 4} : g ∈ fanGroups s f e ↔ g = s.tables.fans[f].group ∨ g = e.group := by
  unfold fanGroups; split
  · rename_i same; rw [← same]; simp
  · simp [or_comm]

theorem applyFan_reselected (differs : s.tables.fans[f] ≠ e) :
    Reselected (fanGroups s f e) (refitted s f e) (applyFan f e s) := by
  have first := fun g => (Reselected.refl (refitted s f e)).step (g := g) (List.not_mem_nil)
  unfold fanGroups
  by_cases same : e.group = s.tables.fans[f].group
  · rw [if_pos same, applyFan_within differs same]; exact first e.group
  · rw [if_neg same, applyFan_moved differs same]
    exact (first s.tables.fans[f].group).step (by rw [List.mem_singleton]; exact same)

theorem refitted_frame (s : State) (f : Fin 8) (e : FanEntry) :
    FanFrame { s with tables := { s.tables with fans := s.tables.fans.set f e } } (refitted s f e) :=
  (changeFan_fanFrame f FanRecord.cleared _).trans (joinHandOver_fanFrame f e _)

theorem refitted_groups : (refitted s f e).groups = s.groups := by rw [refitted_frame]

theorem refitted_entry : (refitted s f e).tables.fans[f] = e := by
  rw [refitted_frame]; exact Vector.getElem_set_self _

/-- R116: the restarted record, MANUAL in a group under hand-over. -/
theorem refitted_fan : (refitted s f e).fans[f] =
    if (e.enabled && s.groups[e.group].handOver) = true then restingFan .manual FanRecord.cleared else FanRecord.cleared := by
  have cleared : ∀ u : State, (changeFan f FanRecord.cleared u).fans[f] = FanRecord.cleared := fun u =>
    (changeFan_fans f f _ u).trans (if_pos rfl)
  have groups : ∀ u : State, (changeFan f FanRecord.cleared u).groups = u.groups := fun u => by
    rw [changeFan_fanFrame f FanRecord.cleared u]
  unfold refitted joinHandOver
  rw [groups]
  split
  · rw [manualFan_eq, changeFan_fans, if_pos rfl, cleared]
  · exact cleared _

/-- What the recomputation of a group makes of a fan that rests: it starts when it joins above stage 0, without hand-over. -/
theorem recomputeRunSet_resting {w : State} {g : Fin 4} {f : Fin 8}
    (rests : w.fans[f].state ≠ .starting ∧ w.fans[f].state ≠ .running) :
    ((recomputeRunSet g w).fans[f]).state =
      if f ∉ w.groups[g].runSet ∧ f ∈ selectRunSet w.tables w.fans g ∧ w.fans[f].state = .off ∧
          w.groups[g].handOver = false ∧ 0 < w.groups[g].commanded then
        if w.tables.fans[f].airflowSlot.isSome then .starting else .running
      else w.fans[f].state := by
  rw [(recomputeRunSet_fans g w).1 f]
  unfold movedFan
  rw [if_neg (by rintro ⟨-, -, h | h⟩; exacts [rests.1 h, rests.2 h])]
  split
  · rw [startedFan_state]; cases w.tables.fans[f].airflowSlot <;> rfl
  · rfl

theorem mem_selectRunSet {ts : Tables} {fans : Vector FanRecord 8} {g : Fin 4} {f : Fin 8} (mem : f ∈ selectRunSet ts fans g) :
    ts.fans[f].enabled = true ∧ ts.fans[f].group = g ∧ fans[f].reason = .none :=
  mem_eligibleFans.mp (List.mem_of_mem_take mem)

/-- The restarted fan rests, with no reason. -/
theorem refitted_rests : (refitted s f e).fans[f].reason = .none ∧ (refitted s f e).fans[f].state =
    if (e.enabled && s.groups[e.group].handOver) = true then .manual else .off := by
  rw [refitted_fan]; split <;> exact ⟨rfl, rfl⟩

/-- The last recomputation of an applied FANS record is that of the group the fan belongs to, over the fan as it was restarted. -/
theorem applyFan_last (differs : s.tables.fans[f] ≠ e) : ∃ w : State,
    applyFan f e s = recomputeRunSet e.group w ∧ w.tables = (refitted s f e).tables ∧
      w.fans[f] = (refitted s f e).fans[f] ∧ w.groups[e.group] = s.groups[e.group] := by
  by_cases same : e.group = s.tables.fans[f].group
  · exact ⟨refitted s f e, applyFan_within differs same, rfl, rfl, by rw [refitted_groups]⟩
  · refine ⟨_, applyFan_moved differs same, (recomputeRunSet_groupFrame _ _).tables, ?_, ?_⟩
    · have other : f ∉ selectRunSet (refitted s f e).tables (refitted s f e).fans s.tables.fans[f].group := fun mem => by
        have own := (mem_selectRunSet mem).2.1
        rw [refitted_entry] at own; exact same own
      have rests := refitted_rests (s := s) (f := f) (e := e)
      rw [(recomputeRunSet_fans _ _).1 f]
      unfold movedFan
      rw [if_neg, if_neg fun h => other h.2.1]
      rintro ⟨-, -, h⟩
      rw [rests.2] at h
      split at h <;> rcases h with h | h <;> cases h
    · have once := (Reselected.refl (refitted s f e)).step (g := s.tables.fans[f].group) List.not_mem_nil
      rw [once.groups, if_neg (by rw [List.mem_singleton]; exact same), refitted_groups]

/-- R98, R116: the changed fan after its record: MANUAL under hand-over, started where it joins the run set above stage 0, else OFF. -/
theorem applyFan_fan (differs : s.tables.fans[f] ≠ e) :
    let t := applyFan f e s
    t.fans[f].reason = .none ∧ t.fans[f].state =
      if (e.enabled && s.groups[e.group].handOver) = true then .manual
      else if f ∈ t.groups[e.group].runSet ∧ f ∉ s.groups[e.group].runSet ∧ 0 < s.groups[e.group].commanded then
        if e.airflowSlot.isSome then .starting else .running
      else .off := by
  intro t
  obtain ⟨reason, state⟩ := refitted_rests (s := s) (f := f) (e := e)
  obtain ⟨w, last, tables, fan, group⟩ := applyFan_last differs
  have entry : w.tables.fans[f] = e := by rw [tables]; exact refitted_entry
  have runSet : t.groups[e.group].runSet = selectRunSet w.tables w.fans e.group := by
    show (applyFan f e s).groups[e.group].runSet = _
    rw [last, recomputeRunSet_runSet, if_pos rfl]
  refine ⟨((applyFan_reselected differs).reasons f).trans reason, ?_⟩
  show (applyFan f e s).fans[f].state = _
  rw [last, recomputeRunSet_resting, fan, state, group, entry, runSet]
  · split
    · exact if_neg fun h => by cases h.2.2.1
    · rename_i free
      refine if_congr ⟨fun ⟨fresh, mem, _, _, above⟩ => ⟨mem, fresh, above⟩, fun ⟨mem, fresh, above⟩ => ?_⟩ rfl rfl
      have enabled := (mem_selectRunSet mem).1
      rw [entry] at enabled
      exact ⟨fresh, mem, rfl, by simpa [enabled] using free, above⟩
  · rw [fan, state]; split <;> exact ⟨nofun, nofun⟩

/-- R162: the two checks of a FANS record, in their order. -/
theorem fanRejects_taken (taken : e.enabled = true ∧ ∃ j : Fin 8, j ≠ f ∧ s.tables.fans[j].enabled = true ∧
    s.tables.fans[j].driveNode = e.driveNode) : fanRejects s f e = some .duplicateDrive := by
  unfold fanRejects; rw [if_pos]; simpa [and_assoc] using taken

theorem fanRejects_free (free : ¬ (e.enabled = true ∧ ∃ j : Fin 8, j ≠ f ∧ s.tables.fans[j].enabled = true ∧
    s.tables.fans[j].driveNode = e.driveNode)) :
    ((∃ i : Fin 64, e.airflowSlot = some i ∧
        ¬ (s.tables.bindings[i].valid = true ∧ s.tables.bindings[i].kind = .airflow)) →
      fanRejects s f e = some .badReference) ∧
    (¬ (∃ i : Fin 64, e.airflowSlot = some i ∧
        ¬ (s.tables.bindings[i].valid = true ∧ s.tables.bindings[i].kind = .airflow)) → fanRejects s f e = none) := by
  simp only [← isAirflow_iff]
  unfold fanRejects; rw [if_neg (by simpa [and_assoc] using free)]
  cases slot : e.airflowSlot with
  | none => exact ⟨fun ⟨i, is, _⟩ => (by cases is), fun _ => rfl⟩
  | some i =>
    refine ⟨fun ⟨j, is, air⟩ => ?_, fun bound => ?_⟩
    · cases is; exact if_neg air
    · refine if_pos ?_
      by_contra air; exact bound ⟨i, rfl, air⟩

end

end Sys2Proof.Machine
end

section
/-! PROOFS. The apply point: it takes the whole list and closes, or takes nothing: O16. -/

namespace Sys2Proof.Machine

/-! ## The records one after another -/

theorem applyRecords_counts (cs : List Change) (s : State) :
    (applyRecords cs s).2.1 + (applyRecords cs s).2.2 = cs.length := by
  induction cs generalizing s with
  | nil => rfl
  | cons c cs ih =>
    unfold applyRecords
    split
    · have := ih (judgeAlarm (applyChange c s)); dsimp only [List.length_cons]; omega
    · rename_i why _
      have := ih (post .tableReject c.table.code (detailOf why.code c.index) s); dsimp only [List.length_cons]; omega

theorem applyRecords_accepted {c : Change} {s : State} (accepted : changeRejects s c = none) (cs : List Change) :
    let r := applyRecords cs (judgeAlarm (applyChange c s))
    applyRecords (c :: cs) s = (r.1, r.2.1 + 1, r.2.2) := by
  dsimp only
  conv_lhs => unfold applyRecords
  rw [accepted]

theorem applyRecords_refused {c : Change} {s : State} {why : Reject} (refused : changeRejects s c = some why)
    (cs : List Change) :
    let r := applyRecords cs (post .tableReject c.table.code (detailOf why.code c.index) s)
    applyRecords (c :: cs) s = (r.1, r.2.1, r.2.2 + 1) := by
  dsimp only
  conv_lhs => unfold applyRecords
  rw [refused]

/-! ## The close -/

theorem pollEntry_mask (ts : Tables) (before : List PollEntry) (a : Nat) :
    (pollEntry ts before a).mask = pointMask ts a ∧ (pollEntry ts before a).fan = driveFan ts a := by
  unfold pollEntry; split <;> exact ⟨rfl, rfl⟩

/-- R132: an address that stood in the list keeps its node's record. -/
theorem pollEntry_carried {ts : Tables} {before : List PollEntry} {a : Nat} {o : PollEntry}
    (stood : before.find? (fun o => o.address == a) = some o) :
    (pollEntry ts before a).state = o.state ∧ (pollEntry ts before a).miss = o.miss ∧
      (pollEntry ts before a).errors = o.errors := by
  unfold pollEntry; rw [stood]; exact ⟨rfl, rfl, rfl⟩

theorem pollEntry_new {ts : Tables} {before : List PollEntry} {a : Nat} (new : ∀ o ∈ before, o.address ≠ a) :
    (pollEntry ts before a).state = .unknown ∧ (pollEntry ts before a).miss = 0 ∧ (pollEntry ts before a).errors = 0 := by
  have absent : before.find? (fun o => o.address == a) = none := by
    rw [List.find?_eq_none]; simpa using new
  unfold pollEntry; rw [absent]; exact ⟨rfl, rfl, rfl⟩

/-- R160: after an applied record the close recomputes every group's run set and rebuilds the poll list. -/
theorem closeTables_some {n : Nat} (some : 1 ≤ n) (s : State) : ∃ t : State, Reselected (List.finRange 4) s t ∧
    closeTables n s = { t with pollList := rebuiltList t.tables t.pollList } := by
  refine ⟨_, forEachGroup_reselected (List.nodup_finRange 4) s, ?_⟩
  unfold closeTables; dsimp only; rw [if_neg (by omega)]

theorem closeTables_frame (n : Nat) (s : State) :
    closeTables n s = { s with
      groups := (closeTables n s).groups, fans := (closeTables n s).fans, pollList := (closeTables n s).pollList
      outputs := (closeTables n s).outputs, events := (closeTables n s).events, lost := (closeTables n s).lost
      draws := (closeTables n s).draws } := by
  cases n with
  | zero => rfl
  | succ n =>
    obtain ⟨t, reselected, closed⟩ := closeTables_some (Nat.succ_pos n) s
    have frame := reselected.frame
    unfold GroupFrame at frame
    rw [closed, frame]

theorem applyPoint_open {s : State} (free : s.hold = false) (idle : s.save = none) (some : s.changes ≠ []) :
    applyPoint s = application s := by
  unfold applyPoint; exact if_pos ⟨by simp [free], idle, some⟩

/-- R121: all four outputs judged, a pending VENT_PROVEN keeping its level. -/
theorem judgeAll_eq (v : State) : judgeAll v = { v with outputs :=
    { chargePermit := chargeFunction v, beacon := beaconFunction v, healthy := healthyFunction v
      ventProven := if ventFunction v = .pending then v.outputs.ventProven else decide (ventFunction v = .proven) } } := by
  unfold judgeAll; rw [ventLevel_eq]

/-! ## The cycle that follows -/

theorem pollAfter_kept (a : Nat) (u : State) :
    (pollAfter a u).changes = u.changes ∧ (pollAfter a u).tables = u.tables := by
  unfold pollAfter; split
  · exact ⟨rfl, rfl⟩
  · have frame := surveyCompletion_workFrame false { u with transaction := none }
    exact ⟨by rw [frame], by rw [frame]⟩

theorem application_changes (s : State) : (application s).changes = [] := rfl

/-! ## O16 -/

section
variable {old new : Binding}

/-- R10: the fields with effect, by the kind of the binding. -/
theorem sameEffect_contact (kind : old.kind = .contact) :
    sameEffect old new = true ↔ old.zone = new.zone ∧ old.role = new.role := by
  simp [sameEffect, kind]

theorem sameEffect_leak (kind : old.kind = .leak) : sameEffect old new = true ↔ old.zone = new.zone ∧
    old.zeroOffset = new.zeroOffset ∧ old.span = new.span ∧ old.shift = new.shift ∧ old.wetLevel = new.wetLevel := by
  simp [sameEffect, kind, and_assoc]

theorem sameEffect_other (notContact : old.kind ≠ .contact) (notLeak : old.kind ≠ .leak) :
    sameEffect old new = true ↔ old.zone = new.zone ∧
      old.zeroOffset = new.zeroOffset ∧ old.span = new.span ∧ old.shift = new.shift := by
  cases kind : old.kind <;> simp_all [sameEffect, and_assoc]

end

theorem applyGroup_frame {g : Fin 4} {e : GroupEntry} {s : State} (differs : s.tables.groups[g] ≠ e) :
    GroupFrame { s with tables := { s.tables with groups := s.tables.groups.set g e } } (applyGroup g e s) := by
  by_cases idle : s.mode = .standby
  · rw [applyGroup_idle differs idle]; exact .refl _
  · rw [applyGroup_active differs idle]
    exact (setGroup_groupFrame g _ _).trans ((restage_groupFrame g _).trans (recomputeRunSet_groupFrame g _))

theorem applyFan_frame {f : Fin 8} {e : FanEntry} {s : State} (differs : s.tables.fans[f] ≠ e) :
    GroupFrame { s with tables := { s.tables with fans := s.tables.fans.set f e } } (applyFan f e s) :=
  (refitted_frame s f e).group.trans (applyFan_reselected differs).frame

/-- R159: the cycle that starts takes the whole list where hold is off and no SAVE is in flight, and else nothing. -/
theorem startCycle_takes {s : State} (some : s.changes ≠ []) :
    if s.hold = false ∧ s.save = none then
      let r := applyRecords s.changes { s with segment := .polling, deferredTick := false }
      (startCycle s).changes = [] ∧ (startCycle s).tables = r.1.tables ∧ r.2.1 + r.2.2 = s.changes.length
    else (startCycle s).changes = s.changes ∧ (startCycle s).tables = s.tables := by
  obtain ⟨changes, tables⟩ := pollAfter_kept 0 (applyPoint { s with segment := .polling, deferredTick := false })
  unfold startCycle
  rw [changes, tables]
  split
  · rename_i taken
    rw [applyPoint_open (s := { s with segment := .polling, deferredTick := false }) taken.1 taken.2 some]
    exact ⟨application_changes _, application_tables _, applyRecords_counts _ _⟩
  · rename_i held
    have closed : s.hold = true ∨ s.save ≠ none ∨ s.changes = [] := by
      by_cases free : s.hold = false
      · exact .inr (.inl fun idle => held ⟨free, idle⟩)
      · exact .inl (by simpa using free)
    rw [applyPoint_closed (s := { s with segment := .polling, deferredTick := false }) closed]
    exact ⟨rfl, rfl⟩

/-- Settles O16: the apply point's cases, then what a record of each table does. -/
theorem applyPointsTakeTheWholeList : Obligations.ApplyPointsTakeTheWholeList := by
  refine ⟨fun s awake timer waiting free some => ?_, fun s => ⟨applyPoint_closed, fun free idle some => ?_⟩,
    fun s c cs => ⟨rfl, fun accepted => applyRecords_accepted accepted cs, fun why refused => applyRecords_refused refused cs⟩,
    fun s i new => ?_, fun s z e => ?_, fun s g e => ?_, fun s f e => ?_, fun s e => ⟨rfl, rfl⟩⟩
  · refine ⟨takeTick s, exec_cycleTick awake timer, ?_⟩
    have starts : takeTick s = startCycle s := takeTick_waiting free waiting
    refine ⟨starts ▸ startCycle_takes some, ?_⟩
    intro u
    have cycle : takeTick s = pollAfter 0 u := starts
    rw [cycle]
    refine ⟨fun e es list low => ?_, fun empty => ?_⟩
    · exact pollAfter_next (by rw [list]; exact List.find?_cons_of_pos (decide_eq_true (Nat.lt_of_succ_le low)))
    · exact pollAfter_last (by rw [empty]; rfl)
  · intro r
    refine ⟨closeTables r.2.1 r.1, closeTables_frame _ _, fun none => by rw [none]; rfl, fun applied => ?_, ?_⟩
    · obtain ⟨w, reselected, closed⟩ := closeTables_some applied r.1
      have before : w.pollList = s.pollList := by
        rw [reselected.frame]; exact applyRecords_pollList s.changes s
      rw [closed, before]
      refine ⟨fun g => ?_, pollLaw_of_rebuilt rfl, fun e mem => ?_⟩
      · refine (reselected.groups g).trans ?_
        rw [if_pos (List.mem_finRange g)]; rfl
      · obtain ⟨a, -, rfl⟩ := List.mem_map.mp mem
        obtain ⟨mask, fan⟩ := pollEntry_mask w.tables s.pollList a
        obtain ⟨noFan, aFan⟩ := driveFan_spelled w.tables a
        rw [pollEntry_address, mask, fan]
        exact ⟨pointMask_getLsbD w.tables a, noFan, aFan, fun o => pollEntry_carried, pollEntry_new⟩
    · intro v
      rw [applyPoint_open free idle some]
      exact judgeAll_eq v
  · intro old sameKey takes orphans collides bucket full sameUse c t fate
    have broken : breaksFan s i new = true ↔ orphans := breaksFan_iff
    have collision : keyCollides s i new = true ↔ collides := keyCollides_iff
    have noRoom : chainIsFull s i new = true ↔ full := chainIsFull_iff
    have use : sameEffect old new = true ↔ sameUse := by
      cases kind : old.kind with
      | contact => simp only [sameUse, kind]; exact sameEffect_contact kind
      | leak => simp only [sameUse, kind]; exact sameEffect_leak kind
      | hydrogen => simp only [sameUse, kind]; exact sameEffect_other (by rw [kind]; nofun) (by rw [kind]; nofun)
      | airflow => simp only [sameUse, kind]; exact sameEffect_other (by rw [kind]; nofun) (by rw [kind]; nofun)
    refine ⟨fun h => bindingRejects_broken (broken.mpr h), ?_, ?_, ?_, ?_, ?_, ?_, ?_, ?_, ?_⟩
    · intro whole takes collides
      exact (bindingRejects_takes (mt broken.mp whole) takes).trans (if_pos (collision.mpr collides))
    · intro whole takes unique full
      refine (bindingRejects_takes (mt broken.mp whole) takes).trans ?_
      rw [if_neg (mt collision.mp unique), if_pos (noRoom.mpr full)]
    · intro whole passes
      by_cases takes : takesKey old new
      · refine (bindingRejects_takes (mt broken.mp whole) takes).trans ?_
        rw [if_neg fun h => passes ⟨takes, .inl (collision.mp h)⟩, if_neg fun h => passes ⟨takes, .inr (noRoom.mp h)⟩]
      · exact bindingRejects_keeps (mt broken.mp whole) takes
    · have chains : t.chains = rechained i old new s.chains := applyBinding_chains i new s
      have channels := takeNotice_channels i (noticeOf (classify old new)) (rebound s i new)
      rw [chains]
      exact channels
    · exact fun law b => applied_chains law b
    · exact fun was is => applied_gone (by rw [classify_invalidate was is]; rfl)
    · exact applied_renewed
    · exact fun was is key kind differs => applied_recalibrated was is key kind (mt use.mp differs)
    · rintro (⟨was, is, key, kind, same⟩ | ⟨was, is⟩)
      · exact applied_silent (by rw [classify_unchanged was is key kind (use.mpr same)]; rfl)
      · exact applied_silent (by rw [classify_staysInvalid was is]; rfl)
  · intro old new t
    refine ⟨rfl, applyZone_same, applyZone_idle, fun differs active enabled => ?_⟩
    intro was now
    obtain ⟨record, frame, posted, groups, fans, fansPosted⟩ := applyZone_changes (e := e) differs active enabled
    have is : now = _ := record
    refine ⟨?_, is.trans (rezoned_eq enabled was), ?_, ?_, ?_, groups, fans, fansPosted⟩
    · rw [is]; exact frame
    · rw [is]; exact posted.gas
    · rw [is]; exact posted.rising
    · rw [is]; exact posted.spill
  · intro t r
    refine ⟨rfl, applyGroup_same, fun differs => ?_⟩
    have frame := applyGroup_frame differs
    refine ⟨frame.tables, by rw [show t = _ from frame], by rw [show t = _ from frame], applyGroup_others, fun idle => ?_,
      applyGroup_record differs⟩
    have applied : t = _ := applyGroup_idle differs idle
    rw [applied]; exact ⟨rfl, rfl⟩
  · intro old t fate taken unbound
    refine ⟨fanRejects_taken, fun free => (fanRejects_free free).1, fun free => (fanRejects_free free).2, applyFan_same,
      fun differs => ?_⟩
    have frame := applyFan_frame differs
    have reselected := applyFan_reselected differs
    obtain ⟨reason, state⟩ := applyFan_fan differs
    refine ⟨frame.tables, by rw [show t = _ from frame], by rw [show t = _ from frame], reason, fun g touched => ?_,
      fun g notOld notNew => ?_, state⟩
    · rw [← refitted_groups (s := s) (f := f) (e := e)]
      exact reselected.read (mem_fanGroups.mpr touched)
    · rw [← refitted_groups (s := s) (f := f) (e := e)]
      exact (reselected.groups g).trans (if_neg fun mem => (mem_fanGroups.mp mem).elim notOld notNew)

end Sys2Proof.Machine
end
